-- ==== Sys2Proof/Word.lean ====
section
/-! DEFINITION. The machine words of the block. Rules cited by number are those of spec/.

Two words are held in a type wide enough for both values of `D` (log 7, log 9): a plane word has
`PW = 8 × D` bits (16 or 32) and lives in 32, a channel level has `D` bits (2 or 4) and lives in 4. -/

namespace Sys2Proof

/-- A command word (R100). -/
abbrev CommandWord := BitVec 64

/-- A plane word of the frame store (R24, R25): the low `8 × D` bits are the word, the others 0. -/
abbrev PlaneWord := BitVec 32

/-- A 16-bit colour word, red 15:11, green 10:5, blue 4:0 (R91). -/
abbrev ColorWord := BitVec 16

/-- The level of one LED in one colour (R25, R92): the low `D` bits are the level, the others 0. -/
abbrev Level := BitVec 4

end Sys2Proof
end

