-- ==== Sys2Proof/Syntax.lean ====
section
/-! DEFINITION. The commands of the block and the names they use (R14, R102, R106).

An operand that has a legal range is held in a type that has no other value, as
93_implementation_defined U1 asks: an illegal operand cannot be written down. -/

namespace Sys2Proof

/-- The five panels, in the fixed chain order (R14). -/
inductive Panel where
  | back | top | left | front | right
deriving DecidableEq, Repr

/-- The two physical frame buffers (R14, R180). -/
inductive Buf where
  | bufA | bufB
deriving DecidableEq, Repr

/-- The role a command addresses a buffer by (R14, R181). -/
inductive Role where
  | display | animate
deriving DecidableEq, Repr

/-- The orientation of a Row or a Panel (R26, R27). -/
inductive Orient where
  | up | down
deriving DecidableEq, Repr

/-- The three colour planes (R14). -/
inductive Chan where
  | red | green | blue
deriving DecidableEq, Repr

/-- Why a command word is illegal (R108): no command is selected, a must-be-zero bit is 1, or an
operand field is outside the legal values of R102. -/
inductive Illegal where
  /-- The opcode is not in the map of R106. -/
  | unassignedOpcode (op : BitVec 8)
  /-- A bit that the format of R101 fixes at 0 is 1. -/
  | mustBeZero
  /-- `buf` is neither 0 nor 1. -/
  | badBuf
  /-- `role` is neither 0 nor 1. -/
  | badRole
  /-- `panel` is above 4. -/
  | badPanel
  /-- `row` is above 7. -/
  | badRow
  /-- `idx` is above 7. -/
  | badIdx
  /-- `orient` is neither 0 nor 1. -/
  | badOrient
  /-- `present` is neither 0 nor 1. -/
  | badPresent
  /-- A flag bit the command does not have is 1. -/
  | badFlags
deriving DecidableEq, Repr

/-- The commands of the block, one constructor for each row of the opcode map (R106), operands in
the order of that map. -/
inductive Instr where
  /-- `NOP`, opcode 0x00 (R109). -/
  | nop
  /-- `SET_PANEL_ORIENT`, opcode 0x01 (R165). -/
  | setPanelOrient (buf : Buf) (panel : Panel) (orient : Orient)
  /-- `SET_ROW_ORIENT`, opcode 0x02 (R157). -/
  | setRowOrient (buf : Buf) (panel : Panel) (row : Fin 8) (orient : Orient)
  /-- `IS_ORIENTED_UP`, opcode 0x03 (R158). -/
  | isOrientedUp (buf : Buf) (panel : Panel) (row : Fin 8)
  /-- `SET_MODE`, opcode 0x04 (R251). -/
  | setMode (wide tall wrap : Bool)
  /-- `SET_GFX_PANEL`, opcode 0x05 (R252). -/
  | setGfxPanel (panel : Panel)
  /-- `SET_LED_PIXEL`, opcode 0x10 (R152). -/
  | setLedPixel (role : Role) (panel : Panel) (row idx : Fin 8) (r g b : BitVec 8)
  /-- `SET_LED_COLOR`, opcode 0x11 (R153). -/
  | setLedColor (role : Role) (panel : Panel) (row idx : Fin 8) (color : ColorWord)
  /-- `GET_LED`, opcode 0x12 (R154). -/
  | getLed (role : Role) (panel : Panel) (row idx : Fin 8)
  /-- `GET_ROW`, opcode 0x13 (R161). -/
  | getRow (role : Role) (panel : Panel) (row : Fin 8)
  /-- `GET_SHIFT_ROW`, opcode 0x14 (R162). -/
  | getShiftRow (role : Role) (panel : Panel) (row : Fin 8)
  /-- `REQUEST_SWAP`, opcode 0x20 (R183). -/
  | requestSwap (immediate : Bool)
  /-- `SET_BLANK`, opcode 0x21 (R301). -/
  | setBlank (on : Bool)
  /-- `DRAW_PIXEL`, opcode 0x30 (R260); `x` and `y` are two's complement (R102). -/
  | drawPixel (x y : BitVec 16) (color : ColorWord)
  /-- `GET_TOP_NEIGHBOR`, opcode 0x31 (R280); `x` and `y` are two's complement (R102). -/
  | getTopNeighbor (x y : BitVec 16) (bg : ColorWord)
  /-- `ANIM_REGISTER`, opcode 0x40 (R302). -/
  | animRegister (present : Bool) (period : BitVec 32)
  /-- `ANIM_ENTER`, opcode 0x41 (R304). -/
  | animEnter
  /-- `ANIM_EXIT`, opcode 0x42 (R305). -/
  | animExit (done : Bool)
  /-- `REFRESH_STEP`, opcode 0x50 (R210); issued by the refresh context. -/
  | refreshStep
  /-- `PACK`, opcode 0x60 (R134). -/
  | pack (r g b : BitVec 8)
  /-- `UNPACK`, opcode 0x61 (R135). -/
  | unpack (color : ColorWord)
  /-- `PIXEL_NEW`, opcode 0x62 (R131); `PIXEL_SET` is the same word (R132). -/
  | pixelNew (r g b : BitVec 8)
  /-- `PIXEL_EQ`, opcode 0x63 (R133). -/
  | pixelEq (r1 g1 b1 r2 g2 b2 : BitVec 8)
deriving DecidableEq, Repr

end Sys2Proof
end

