-- ==== Sys2Proof/Config.lean ====
section
/-! DEFINITION. What a build fixes: the parameters the spec leaves open (00_scope R7 and R9,
92_eei_decisions D1 to D4). They are data that the state carries and no command writes (log 1), so a
statement about every state is a statement about every build. -/

namespace Sys2Proof

/-- The colour depth `D` (R7): 2 or 4 bits per channel; no other value can be written. -/
inductive Depth where
  | two | four
deriving DecidableEq, Repr

/-- The dimming schedule `SCHED` (R9, R48): a table of `N = 2^D` masks of `N` bits. The depth `D`
drives the table's size, so the table's constructor is the depth. Which tables a build may have is
`Schedule.wf` (R201). -/
inductive Schedule where
  | two (table : Vector (BitVec 4) 4)
  | four (table : Vector (BitVec 16) 16)
deriving DecidableEq, Repr

/-- `CHAN_ORDER` (R9): the six orders in which the three planes of a row can be shifted out. -/
inductive ChanOrder where
  | rgb | rbg | grb | gbr | brg | bgr
deriving DecidableEq, Repr

/-- `LED_ORDER` (R9): which field position of a plane word is shifted out first. -/
inductive LedOrder where
  | asc | desc
deriving DecidableEq, Repr

/-- The build parameters. -/
structure Build where
  /-- `SCHED`, and with it `D`. -/
  sched : Schedule
  /-- `CHAN_ORDER`. -/
  chanOrder : ChanOrder
  /-- `LED_ORDER`. -/
  ledOrder : LedOrder
deriving DecidableEq, Repr

end Sys2Proof
end

