-- ==== Sys2Proof/WellFormed.lean ====
section
/-! DEFINITION. Which command words are legal (R106, R108), written from the `match` and `mask` of
spec/opcode_table.json and independent of the decoder.

The operands of an `Instr` are held in types with no illegal value (Syntax.lean), so every `Instr` is
well formed; what can be ill formed is a command word, and this file is its check. -/

namespace Sys2Proof

/-- One row of the opcode table: a word selects the row when `w &&& mask = pattern` (R106). -/
structure OpcodeRow where
  mnemonic : String
  pattern : CommandWord
  mask : CommandWord
  /-- Does the row have a `panel` field? Its limit 4 is the one condition a mask cannot say (R106). -/
  hasPanel : Bool
deriving DecidableEq, Repr

/-- The opcode map of R106, row by row. -/
def opcodeTable : List OpcodeRow :=
  [ ⟨"NOP",              0x0000000000000000, 0xFFFFFFFFFFFFFFFF, false⟩,
    ⟨"SET_PANEL_ORIENT", 0x0100000000000000, 0xFFFEF8FFFEFFFFFF, true⟩,
    ⟨"SET_ROW_ORIENT",   0x0200000000000000, 0xFFFEF8F8FEFFFFFF, true⟩,
    ⟨"IS_ORIENTED_UP",   0x0300000000000000, 0xFFFEF8F8FFFFFFFF, true⟩,
    ⟨"SET_MODE",         0x0400000000000000, 0xFFFFFFFFFFFFFFF8, false⟩,
    ⟨"SET_GFX_PANEL",    0x0500000000000000, 0xFFFFF8FFFFFFFFFF, true⟩,
    ⟨"SET_LED_PIXEL",    0x1000000000000000, 0xFFFEF8F8F8000000, true⟩,
    ⟨"SET_LED_COLOR",    0x1100000000000000, 0xFFFEF8F8F8FF0000, true⟩,
    ⟨"GET_LED",          0x1200000000000000, 0xFFFEF8F8F8FFFFFF, true⟩,
    ⟨"GET_ROW",          0x1300000000000000, 0xFFFEF8F8FFFFFFFF, true⟩,
    ⟨"GET_SHIFT_ROW",    0x1400000000000000, 0xFFFEF8F8FFFFFFFF, true⟩,
    ⟨"REQUEST_SWAP",     0x2000000000000000, 0xFFFFFFFFFFFFFFFE, false⟩,
    ⟨"SET_BLANK",        0x2100000000000000, 0xFFFFFFFFFFFFFFFE, false⟩,
    ⟨"DRAW_PIXEL",       0x3000000000000000, 0xFFFF000000000000, false⟩,
    ⟨"GET_TOP_NEIGHBOR", 0x3100000000000000, 0xFFFF000000000000, false⟩,
    ⟨"ANIM_REGISTER",    0x4000000000000000, 0xFFFFFFFE00000000, false⟩,
    ⟨"ANIM_ENTER",       0x4100000000000000, 0xFFFFFFFFFFFFFFFF, false⟩,
    ⟨"ANIM_EXIT",        0x4200000000000000, 0xFFFFFFFFFFFFFFFE, false⟩,
    ⟨"REFRESH_STEP",     0x5000000000000000, 0xFFFFFFFFFFFFFFFF, false⟩,
    ⟨"PACK",             0x6000000000000000, 0xFFFFFFFFFF000000, false⟩,
    ⟨"UNPACK",           0x6100000000000000, 0xFFFFFFFFFFFF0000, false⟩,
    ⟨"PIXEL_NEW",        0x6200000000000000, 0xFFFFFFFFFF000000, false⟩,
    ⟨"PIXEL_EQ",         0x6300000000000000, 0xFFFF000000000000, false⟩ ]

/-- The word selects this row and, where the row has a panel field, the panel is at most 4
(R106, R108). -/
def OpcodeRow.selects (row : OpcodeRow) (w : CommandWord) : Bool :=
  w &&& row.mask == row.pattern && (!row.hasPanel || decide ((w.extractLsb' 40 8).toNat ≤ 4))

/-- A command word is legal when some row of the opcode map selects it (R106, R108). -/
def legalWord (w : CommandWord) : Bool :=
  opcodeTable.any (·.selects w)

end Sys2Proof
end

