-- ==== Sys2Proof/Decode.lean ====
section
/-! DEFINITION. The decoder and the encoder of command words (R100 to R108), and the word the host
asks about. The decoder is total and names why it refuses a word. -/

namespace Sys2Proof

/-! ## Fields -/

/-- `W[8k + 7 : 8k]`: byte `k` of a command word, byte 0 the least significant (R10, R101). -/
def byteAt (w : CommandWord) (k : Nat) : BitVec 8 := w.extractLsb' (8 * k) 8

/-- A byte put at place `k` of a command word, byte 0 the least significant (R10, R101). -/
def putByte (b : BitVec 8) (k : Nat) : CommandWord := b.setWidth 64 <<< (8 * k)

/-- A command word from its bytes, the opcode byte first (R101). -/
def ofBytes (b7 b6 b5 b4 b3 b2 b1 b0 : BitVec 8) : CommandWord :=
  putByte b7 7 ||| putByte b6 6 ||| putByte b5 5 ||| putByte b4 4 ||| putByte b3 3 |||
    putByte b2 2 ||| putByte b1 1 ||| putByte b0 0

/-- A bit the format fixes at 0 must be 0 (R108). -/
def mustBeZero {n : Nat} (b : BitVec n) : Except Illegal Unit :=
  if b = 0 then .ok () else .error .mustBeZero

/-- The field `buf` (R102). -/
def bufOf (b : BitVec 8) : Except Illegal Buf :=
  if b = 0 then .ok .bufA else if b = 1 then .ok .bufB else .error .badBuf

/-- The field `role` (R102). -/
def roleOf (b : BitVec 8) : Except Illegal Role :=
  if b = 0 then .ok .display else if b = 1 then .ok .animate else .error .badRole

/-- The field `orient` (R102). -/
def orientOf (b : BitVec 8) : Except Illegal Orient :=
  if b = 0 then .ok .up else if b = 1 then .ok .down else .error .badOrient

/-- The field `present` (R102). -/
def presentOf (b : BitVec 8) : Except Illegal Bool :=
  if b = 0 then .ok false else if b = 1 then .ok true else .error .badPresent

/-- The field `panel` (R102). -/
def panelOf (b : BitVec 8) : Except Illegal Panel :=
  if b = 0 then .ok .back else if b = 1 then .ok .top else if b = 2 then .ok .left
  else if b = 3 then .ok .front else if b = 4 then .ok .right else .error .badPanel

/-- The field `row` (R102). -/
def rowOf (b : BitVec 8) : Except Illegal (Fin 8) :=
  if h : b.toNat < 8 then .ok ⟨b.toNat, h⟩ else .error .badRow

/-- The field `idx` (R102). -/
def idxOf (b : BitVec 8) : Except Illegal (Fin 8) :=
  if h : b.toNat < 8 then .ok ⟨b.toNat, h⟩ else .error .badIdx

/-- A `flags` byte whose one flag is bit 0 (R102). -/
def oneFlag (b : BitVec 8) : Except Illegal Bool :=
  if b = 0 then .ok false else if b = 1 then .ok true else .error .badFlags

/-- A `flags` byte whose flags are bits 2:0; bits 7:3 are zero (R102, R251). -/
def threeFlags (b : BitVec 8) : Except Illegal (Bool × Bool × Bool) :=
  if b.extractLsb' 3 5 = 0 then .ok (b.getLsbD 0, b.getLsbD 1, b.getLsbD 2) else .error .badFlags

/-! ## The decoder -/

/-- The command a word stands for, or why it is illegal (R100 to R108). -/
def decode (w : CommandWord) : Except Illegal Instr :=
  match (byteAt w 7).toNat with
  | 0x00 => do
      mustBeZero (w.extractLsb' 0 56)
      .ok .nop
  | 0x01 => do
      let buf ← bufOf (byteAt w 6)
      let panel ← panelOf (byteAt w 5)
      mustBeZero (byteAt w 4)
      let orient ← orientOf (byteAt w 3)
      mustBeZero (w.extractLsb' 0 24)
      .ok (.setPanelOrient buf panel orient)
  | 0x02 => do
      let buf ← bufOf (byteAt w 6)
      let panel ← panelOf (byteAt w 5)
      let row ← rowOf (byteAt w 4)
      let orient ← orientOf (byteAt w 3)
      mustBeZero (w.extractLsb' 0 24)
      .ok (.setRowOrient buf panel row orient)
  | 0x03 => do
      let buf ← bufOf (byteAt w 6)
      let panel ← panelOf (byteAt w 5)
      let row ← rowOf (byteAt w 4)
      mustBeZero (w.extractLsb' 0 32)
      .ok (.isOrientedUp buf panel row)
  | 0x04 => do
      mustBeZero (w.extractLsb' 8 48)
      let (wide, tall, wrap) ← threeFlags (byteAt w 0)
      .ok (.setMode wide tall wrap)
  | 0x05 => do
      mustBeZero (byteAt w 6)
      let panel ← panelOf (byteAt w 5)
      mustBeZero (w.extractLsb' 0 40)
      .ok (.setGfxPanel panel)
  | 0x10 => do
      let role ← roleOf (byteAt w 6)
      let panel ← panelOf (byteAt w 5)
      let row ← rowOf (byteAt w 4)
      let idx ← idxOf (byteAt w 3)
      .ok (.setLedPixel role panel row idx (byteAt w 2) (byteAt w 1) (byteAt w 0))
  | 0x11 => do
      let role ← roleOf (byteAt w 6)
      let panel ← panelOf (byteAt w 5)
      let row ← rowOf (byteAt w 4)
      let idx ← idxOf (byteAt w 3)
      mustBeZero (byteAt w 2)
      .ok (.setLedColor role panel row idx (w.extractLsb' 0 16))
  | 0x12 => do
      let role ← roleOf (byteAt w 6)
      let panel ← panelOf (byteAt w 5)
      let row ← rowOf (byteAt w 4)
      let idx ← idxOf (byteAt w 3)
      mustBeZero (w.extractLsb' 0 24)
      .ok (.getLed role panel row idx)
  | 0x13 => do
      let role ← roleOf (byteAt w 6)
      let panel ← panelOf (byteAt w 5)
      let row ← rowOf (byteAt w 4)
      mustBeZero (w.extractLsb' 0 32)
      .ok (.getRow role panel row)
  | 0x14 => do
      let role ← roleOf (byteAt w 6)
      let panel ← panelOf (byteAt w 5)
      let row ← rowOf (byteAt w 4)
      mustBeZero (w.extractLsb' 0 32)
      .ok (.getShiftRow role panel row)
  | 0x20 => do
      mustBeZero (w.extractLsb' 8 48)
      let immediate ← oneFlag (byteAt w 0)
      .ok (.requestSwap immediate)
  | 0x21 => do
      mustBeZero (w.extractLsb' 8 48)
      let on ← oneFlag (byteAt w 0)
      .ok (.setBlank on)
  | 0x30 => do
      mustBeZero (byteAt w 6)
      .ok (.drawPixel (w.extractLsb' 32 16) (w.extractLsb' 16 16) (w.extractLsb' 0 16))
  | 0x31 => do
      mustBeZero (byteAt w 6)
      .ok (.getTopNeighbor (w.extractLsb' 32 16) (w.extractLsb' 16 16) (w.extractLsb' 0 16))
  | 0x40 => do
      mustBeZero (w.extractLsb' 40 16)
      let present ← presentOf (byteAt w 4)
      .ok (.animRegister present (w.extractLsb' 0 32))
  | 0x41 => do
      mustBeZero (w.extractLsb' 0 56)
      .ok .animEnter
  | 0x42 => do
      mustBeZero (w.extractLsb' 8 48)
      let done ← oneFlag (byteAt w 0)
      .ok (.animExit done)
  | 0x50 => do
      mustBeZero (w.extractLsb' 0 56)
      .ok .refreshStep
  | 0x60 => do
      mustBeZero (w.extractLsb' 24 32)
      .ok (.pack (byteAt w 2) (byteAt w 1) (byteAt w 0))
  | 0x61 => do
      mustBeZero (w.extractLsb' 16 40)
      .ok (.unpack (w.extractLsb' 0 16))
  | 0x62 => do
      mustBeZero (w.extractLsb' 24 32)
      .ok (.pixelNew (byteAt w 2) (byteAt w 1) (byteAt w 0))
  | 0x63 => do
      mustBeZero (byteAt w 6)
      .ok (.pixelEq (byteAt w 5) (byteAt w 4) (byteAt w 3) (byteAt w 2) (byteAt w 1) (byteAt w 0))
  | _ => .error (.unassignedOpcode (byteAt w 7))

/-- The command word of a table number `w` of `nbits` bits; the bits above them are 0. A command is one
64-bit word (R100). -/
def tableWord (nbits w : Nat) : CommandWord := BitVec.ofNat 64 (w % 2 ^ nbits)

/-- The instruction the decoder reads from a table number. -/
def decodeTableWord (nbits w : Nat) : Option Instr :=
  match decode (tableWord nbits w) with
  | .ok i => some i
  | .error _ => none

/-! ## The encoder, written from R101, R102 and R106 -/

/-- The number of a buffer (R14). -/
def Buf.code : Buf → BitVec 8
  | .bufA => 0
  | .bufB => 1

/-- The number of a role (R14). -/
def Role.code : Role → BitVec 8
  | .display => 0
  | .animate => 1

/-- The number of an orientation (R14). -/
def Orient.code : Orient → BitVec 8
  | .up => 0
  | .down => 1

/-- The number of a panel (R14). -/
def Panel.code : Panel → BitVec 8
  | .back => 0
  | .top => 1
  | .left => 2
  | .front => 3
  | .right => 4

/-- A row or LED index in its byte (R102). -/
def indexCode (i : Fin 8) : BitVec 8 := BitVec.ofNat 8 i.val

/-- A flag in bit 0 of its byte (R102). -/
def flagCode (f : Bool) : BitVec 8 := if f then 1 else 0

/-- Three flags in bits 0, 1 and 2 of a byte (R102, R251). -/
def threeFlagsCode (f0 f1 f2 : Bool) : BitVec 8 :=
  flagCode f0 ||| flagCode f1 <<< 1 ||| flagCode f2 <<< 2

/-- The high byte of a 16-bit operand (R101). -/
def hiByte (v : BitVec 16) : BitVec 8 := v.extractLsb' 8 8

/-- The low byte of a 16-bit operand (R101). -/
def loByte (v : BitVec 16) : BitVec 8 := v.extractLsb' 0 8

/-- The command word of a command (R101, R106). -/
def encode : Instr → CommandWord
  | .nop => ofBytes 0x00 0 0 0 0 0 0 0
  | .setPanelOrient buf panel orient => ofBytes 0x01 buf.code panel.code 0 orient.code 0 0 0
  | .setRowOrient buf panel row orient =>
      ofBytes 0x02 buf.code panel.code (indexCode row) orient.code 0 0 0
  | .isOrientedUp buf panel row => ofBytes 0x03 buf.code panel.code (indexCode row) 0 0 0 0
  | .setMode wide tall wrap => ofBytes 0x04 0 0 0 0 0 0 (threeFlagsCode wide tall wrap)
  | .setGfxPanel panel => ofBytes 0x05 0 panel.code 0 0 0 0 0
  | .setLedPixel role panel row idx r g b =>
      ofBytes 0x10 role.code panel.code (indexCode row) (indexCode idx) r g b
  | .setLedColor role panel row idx color =>
      ofBytes 0x11 role.code panel.code (indexCode row) (indexCode idx) 0 (hiByte color)
        (loByte color)
  | .getLed role panel row idx =>
      ofBytes 0x12 role.code panel.code (indexCode row) (indexCode idx) 0 0 0
  | .getRow role panel row => ofBytes 0x13 role.code panel.code (indexCode row) 0 0 0 0
  | .getShiftRow role panel row => ofBytes 0x14 role.code panel.code (indexCode row) 0 0 0 0
  | .requestSwap immediate => ofBytes 0x20 0 0 0 0 0 0 (flagCode immediate)
  | .setBlank on => ofBytes 0x21 0 0 0 0 0 0 (flagCode on)
  | .drawPixel x y color =>
      ofBytes 0x30 0 (hiByte x) (loByte x) (hiByte y) (loByte y) (hiByte color) (loByte color)
  | .getTopNeighbor x y bg =>
      ofBytes 0x31 0 (hiByte x) (loByte x) (hiByte y) (loByte y) (hiByte bg) (loByte bg)
  | .animRegister present period =>
      ofBytes 0x40 0 0 (flagCode present) (period.extractLsb' 24 8) (period.extractLsb' 16 8)
        (period.extractLsb' 8 8) (period.extractLsb' 0 8)
  | .animEnter => ofBytes 0x41 0 0 0 0 0 0 0
  | .animExit done => ofBytes 0x42 0 0 0 0 0 0 (flagCode done)
  | .refreshStep => ofBytes 0x50 0 0 0 0 0 0 0
  | .pack r g b => ofBytes 0x60 0 0 0 0 r g b
  | .unpack color => ofBytes 0x61 0 0 0 0 0 (hiByte color) (loByte color)
  | .pixelNew r g b => ofBytes 0x62 0 0 0 0 r g b
  | .pixelEq r1 g1 b1 r2 g2 b2 => ofBytes 0x63 0 r1 g1 b1 r2 g2 b2

end Sys2Proof
end

