-- ==== Sys2Proof/Machine/Schedule.lean ====
section
/-! DEFINITION. The depth's derived constants, the dimming schedule's lookup and default table, and
the two shift orders (R7, R96, R201 to R204, R213). -/

namespace Sys2Proof

/-- `D` (R7). -/
def Depth.bits : Depth → Nat
  | .two => 2
  | .four => 4

/-- `N = 2^D`, the number of levels and of sub-cycles (R7). -/
def Depth.levels : Depth → Nat
  | .two => 4
  | .four => 16

/-- `M = 2^D − 1`, the field mask (R7). -/
def Depth.mask : Depth → Level
  | .two => 3
  | .four => 15

/-- The mask of a whole plane word, `2^PW − 1` with `PW = 8 × D` (R7). -/
def Depth.planeMask : Depth → PlaneWord
  | .two => 0x0000FFFF
  | .four => 0xFFFFFFFF

/-- The depth a table is for (R7, R48). -/
def Schedule.depth : Schedule → Depth
  | .two _ => .two
  | .four _ => .four

/-- `D` of a build. -/
def Build.depth (b : Build) : Depth := b.sched.depth

/-- The entry `SCHED[v]`, zero-extended to 16 bits (R48, R96). -/
def Schedule.entry : Schedule → Level → BitVec 16
  | .two t, v => (t[v.toNat]?.getD 0).setWidth 16
  | .four t, v => t[v.toNat]?.getD 0

/-- `(SCHED[v] >> s) & 1` (R96, R212): is an LED of level `v` on in sub-cycle `s`? -/
def Schedule.bit (t : Schedule) (v : Level) (s : Nat) : Bool :=
  (t.entry v).getLsbD s

/-- The number of 1 bits of the low `n` bits (R10). -/
def popcountBelow (w : BitVec 16) : Nat → Nat
  | 0 => 0
  | n + 1 => popcountBelow w n + (w.getLsbD n).toNat

/-- `popcount(SCHED[v]) = v` for every `v` (R201): the constraint on a build's table. -/
def Schedule.wf (t : Schedule) : Bool :=
  (List.range t.depth.levels).all fun v => popcountBelow (t.entry (BitVec.ofNat 4 v)) 16 == v

/-- The default table for `D = 2` (R204). -/
def Schedule.even2 : Schedule := .two #v[0x0, 0x8, 0xA, 0xE]

/-- The default table for `D = 4` (R204). -/
def Schedule.even4 : Schedule :=
  .four #v[0x0000, 0x8000, 0x8080, 0x8420, 0x8888, 0x9248, 0xA4A4, 0xAA54,
           0xAAAA, 0xD5AA, 0xDADA, 0xEDB6, 0xEEEE, 0xFBDE, 0xFEFE, 0xFFFE]

/-- `SCHED_EVEN` (R204), the spec's default for either depth. -/
def Schedule.even : Depth → Schedule
  | .two => .even2
  | .four => .even4

/-- The formula of R204 that `SCHED_EVEN` tabulates. -/
def evenFormula (d : Depth) (v s : Nat) : Bool :=
  decide ((s + 1) * v / d.levels > s * v / d.levels)

/-- The planes in the order they are shifted out (R9, R213). -/
def ChanOrder.toList : ChanOrder → List Chan
  | .rgb => [.red, .green, .blue]
  | .rbg => [.red, .blue, .green]
  | .grb => [.green, .red, .blue]
  | .gbr => [.green, .blue, .red]
  | .brg => [.blue, .red, .green]
  | .bgr => [.blue, .green, .red]

/-- The field positions in the order they are shifted out (R9, R213). -/
def LedOrder.toList : LedOrder → List (Fin 8)
  | .asc => [0, 1, 2, 3, 4, 5, 6, 7]
  | .desc => [7, 6, 5, 4, 3, 2, 1, 0]

/-- A build with the spec's defaults for `SCHED`, `CHAN_ORDER` and `LED_ORDER` (R9). -/
def Build.default (d : Depth) : Build :=
  { sched := .even d, chanOrder := .rgb, ledOrder := .asc }

/-- The build of `State.reset`: depth 2 with the spec's defaults. DESIGN CHOICE (log 2), unsafe: the
spec gives `D` no default; statements are made for every build. -/
def Build.standard : Build := .default .two

end Sys2Proof
end

