-- ==== Sys2Proof/Machine/State.lean ====
section
/-! DEFINITION. The state of the block as plain data, the reasons a step can stop, and reset
(10_state R20 to R50). INVENTORY.md lists every field with its rule. -/

namespace Sys2Proof.Machine

open Sys2Proof

/-- A Pixel (R92): three channel levels. It is a value, not state; it travels in replies. -/
structure Pixel where
  r : Level
  g : Level
  b : Level
deriving DecidableEq, Repr

/-- The levels of the output pins (R40). -/
structure Pins where
  /-- `SCLK`, the serial clock. -/
  sclk : Bool
  /-- `SDATA`, the serial data; 1 means the LED this bit reaches is on. -/
  sdata : Bool
  /-- `LATCH`, the output latch of the chain. -/
  latch : Bool
  /-- `OE_N`, the active-low output enable; 1 means every LED is off. -/
  oeN : Bool
  /-- `ROWSEL`, the row-select value (R98). -/
  rowsel : BitVec 3
deriving DecidableEq, Repr

/-- One pin write `(pin, value)` of the bus trace (R41, R220). -/
inductive PinEvent where
  | sclk (v : Bool)
  | sdata (v : Bool)
  | latch (v : Bool)
  | oeN (v : Bool)
  | rowsel (v : BitVec 3)
deriving DecidableEq, Repr

/-- What a command hands back to the context that issued it (`return v`, R12; R20, R106). -/
inductive Reply where
  /-- One bit: `IS_ORIENTED_UP`, `PIXEL_EQ`. -/
  | bit (v : Bool)
  /-- A Pixel: `GET_LED`, `GET_TOP_NEIGHBOR`, `UNPACK`, `PIXEL_NEW`. -/
  | pixel (v : Pixel)
  /-- A colour word: `PACK`. -/
  | color (v : ColorWord)
  /-- The three plane words of a Row: `GET_ROW`, `GET_SHIFT_ROW`. -/
  | row (red green blue : PlaneWord)
deriving DecidableEq, Repr

/-- The frame store's plane words (R24) by their linear number (R72): a list of (number, word) in
canonical form (`Memory.wf`). A number not listed reads as 0, the reset value of every plane word
(R50). Log 8. -/
abbrev Memory := List (Nat × PlaneWord)

/-- The state of the block. -/
@[ext]
structure State where
  /-- The build parameters `SCHED` (with `D`), `CHAN_ORDER`, `LED_ORDER` (R7, R9, R48). The MODEL's
  own field: the spec's constants, carried so that a statement covers every build (log 1). -/
  build : Build
  /-- `FS[b][p][r][c]` (R24). -/
  fs : Memory
  /-- `PANOR[b][p]` (R27). -/
  panor : Vector (Vector Orient 5) 2
  /-- `ROWOR[b][p][r]` (R26). -/
  rowor : Vector (Vector (Vector Orient 8) 5) 2
  /-- `subCycle`, in `[0, N)` (R21). -/
  subCycle : Nat
  /-- `row` (R21). -/
  row : Fin 8
  /-- `displayIndex` (R28). -/
  displayIndex : Buf
  /-- `animateIndex` (R28). -/
  animateIndex : Buf
  /-- `swapPending` (R29). -/
  swapPending : Bool
  /-- `blankSeq` (R31). -/
  blankSeq : Bool
  /-- `blankHold` (R31). -/
  blankHold : Bool
  /-- `wide` (R32). -/
  wide : Bool
  /-- `tall` (R32). -/
  tall : Bool
  /-- `wrap` (R32). -/
  wrap : Bool
  /-- `gfxPanel` (R33). -/
  gfxPanel : Panel
  /-- `animRegistered` (R34). -/
  animRegistered : Bool
  /-- `animPeriod` (R34). -/
  animPeriod : BitVec 32
  /-- `animActive` (R34). -/
  animActive : Bool
  /-- `animSavedHold` (R34). -/
  animSavedHold : Bool
  /-- The output pins (R40). -/
  pins : Pins
  /-- The bus trace, oldest event first (R41). -/
  trace : List PinEvent
  /-- The values handed back to the issuing context, oldest first. The MODEL's own field: the block
  has no result register (R20); this is the channel the values leave by (log 4). -/
  replies : List Reply
  /-- The command words still to come, next one first: the rest of the one sequence of R68, host
  commands in issue order with refresh ticks among them. The MODEL's own field (log 5). -/
  commands : List CommandWord
deriving DecidableEq, Repr

/-- The faults of the block: none. "The block raises no exception of any kind" (R320), and every
index of an access is in range by its type, so there is no constructor and no step can fault. -/
inductive Fault where
deriving DecidableEq, Repr

/-- Why a step is refused. -/
inductive Refusal where
  /-- An instruction with no meaning in the model; raised by the arms of `exec` that reject by name
  (there is none left). Safe. -/
  | notModelled (mnemonic : String)
  /-- The next command word is illegal (R108), so there is no command to run; raised by `step`. The
  spec has the block ignore the word and asks a model to refuse it rather than build on that (R62,
  R108, 92_eei_decisions D21, 93_implementation_defined U1, U14). Safe (log 6). -/
  | illegalCommand (why : Illegal)
deriving DecidableEq, Repr

/-- The pins at reset (R50). -/
def Pins.reset : Pins :=
  { sclk := false, sdata := false, latch := false, oeN := true, rowsel := 0 }

/-- The machine right after reset, for a build (R50, R350). -/
def State.resetWith (b : Build) : State :=
  { build := b
    fs := []
    panor := .replicate 2 (.replicate 5 .up)
    rowor := .replicate 2 (.replicate 5 (.replicate 8 .up))
    subCycle := 0
    row := 0
    displayIndex := .bufA
    animateIndex := .bufB
    swapPending := false
    blankSeq := true
    blankHold := false
    wide := false
    tall := false
    wrap := false
    gfxPanel := .back
    animRegistered := false
    animPeriod := 0
    animActive := false
    animSavedHold := false
    pins := .reset
    trace := []
    replies := []
    commands := [] }

/-- The machine right after reset (R50), in the standard build (log 2). -/
def State.reset : State := .resetWith .standard

end Sys2Proof.Machine
end

