-- ==== Sys2Proof/Machine/Operands.lean ====
section
/-! DEFINITION. How operands become values and places: channel masking and packing (R93, R94, R131),
the fields of a plane word (R25), the orientation maps (R151, R163), roles (R181), the canvas
geometry (R260 to R266). None of these changes state. -/

namespace Sys2Proof

/-! ## Numbers of the enumerations (R14) -/

/-- The number of a buffer (R14). -/
def Buf.idx : Buf → Fin 2
  | .bufA => 0
  | .bufB => 1

/-- The number of a panel (R14); also its place in the chain (R213). -/
def Panel.idx : Panel → Fin 5
  | .back => 0
  | .top => 1
  | .left => 2
  | .front => 3
  | .right => 4

/-- The number of a colour plane (R14). -/
def Chan.idx : Chan → Fin 3
  | .red => 0
  | .green => 1
  | .blue => 2

/-- The other of the two buffers. -/
def Buf.other : Buf → Buf
  | .bufA => .bufB
  | .bufB => .bufA

/-- The panels in chain order (R14, R213). -/
def panelChain : List Panel := [.back, .top, .left, .front, .right]

/-- The linear number of a plane word, in `[0, 240)` (R72). -/
def wordNumber (b : Buf) (p : Panel) (r : Fin 8) (c : Chan) : Nat :=
  ((b.idx.val * 5 + p.idx.val) * 8 + r.val) * 3 + c.idx.val

end Sys2Proof

namespace Sys2Proof.Machine

open Sys2Proof

/-! ## Channels, Pixels and colour words -/

/-- `v & M` of an 8-bit channel operand (R102, R131). -/
def quantize (d : Depth) (v : BitVec 8) : Level := v.setWidth 4 &&& d.mask

/-- `Pixel(r & M, g & M, b & M)` (R131). -/
def pixelOf (d : Depth) (r g b : BitVec 8) : Pixel :=
  ⟨quantize d r, quantize d g, quantize d b⟩

/-- `(c >> k) & M` (R93). -/
def colorSlice (d : Depth) (c : ColorWord) (k : Nat) : Level := (c >>> k).setWidth 4 &&& d.mask

/-- The channels of a colour word: the top `D` bits of each field (R93, R135). -/
def unpackColor (d : Depth) (c : ColorWord) : Pixel :=
  ⟨colorSlice d c (16 - d.bits), colorSlice d c (11 - d.bits), colorSlice d c (5 - d.bits)⟩

/-- The colour word of a Pixel: each level in the top `D` bits of its field, zeros elsewhere
(R94, R134). -/
def packColor (d : Depth) (px : Pixel) : ColorWord :=
  (px.r.setWidth 16 <<< (16 - d.bits)) ||| (px.g.setWidth 16 <<< (11 - d.bits)) |||
    (px.b.setWidth 16 <<< (5 - d.bits))

/-- The channel of a Pixel for a colour plane (R25). -/
def Pixel.chan (px : Pixel) : Chan → Level
  | .red => px.r
  | .green => px.g
  | .blue => px.b

/-- `(a + b) div 2` of two levels, formed without loss before the division (R282). -/
def averageLevel (a b : Level) : Level := BitVec.ofNat 4 ((a.toNat + b.toNat) / 2)

/-- The channel-wise average of two Pixels (R282). -/
def averagePixel (a b : Pixel) : Pixel :=
  ⟨averageLevel a.r b.r, averageLevel a.g b.g, averageLevel a.b b.b⟩

/-! ## Fields of a plane word -/

/-- The field at a position: `(w >> (p × D)) & M` (R25, R154). -/
def fieldAt (d : Depth) (w : PlaneWord) (p : Fin 8) : Level :=
  (w >>> (p.val * d.bits)).setWidth 4 &&& d.mask

/-- The word with the field at a position cleared and the level put there:
`(w & ~(M << sh)) | (v << sh)` with `sh = p × D` (R152). -/
def withField (d : Depth) (w : PlaneWord) (p : Fin 8) (v : Level) : PlaneWord :=
  (w &&& ~~~(d.mask.setWidth 32 <<< (p.val * d.bits))) ||| (v.setWidth 32 <<< (p.val * d.bits))

/-! ## Orientation -/

/-- `Pos(o, i)`, the field position of LED `i` (R151). -/
def ledPos : Orient → Fin 8 → Fin 8
  | .up, i => i
  | .down, i => i.rev

/-- `ShiftRow(o, i)`, the stored row of shift row `i` (R163). -/
def shiftRow : Orient → Fin 8 → Fin 8
  | .up, i => i
  | .down, i => i.rev

/-- `Buf(role)`, resolved with the current role indices (R181). -/
def State.buf (s : State) : Role → Buf
  | .display => s.displayIndex
  | .animate => s.animateIndex

/-! ## The canvas (R251, R260 to R266) -/

/-- The place of an LED: panel, stored row, LED index (R250). -/
structure LedPlace where
  panel : Panel
  row : Fin 8
  idx : Fin 8
deriving DecidableEq, Repr

/-- The four bands of the wide canvas, in their fixed order (R14, R264). -/
inductive Band where
  | left | front | right | back
deriving DecidableEq, Repr

/-- The band of a canvas column in `[0, 32)`: `x div L` (R260, R264). -/
def bandOf (x : Nat) : Band :=
  if x / 8 = 0 then .left else if x / 8 = 1 then .front else if x / 8 = 2 then .right else .back

/-- `BandPanel(band)` (R264). -/
def Band.panel : Band → Panel
  | .left => .left
  | .front => .front
  | .right => .right
  | .back => .back

/-- `n mod 8` as an index of a row or an LED (R260: `x mod L`; `y − R` and in-range coordinates). -/
def mod8 (n : Nat) : Fin 8 := Fin.ofNat 8 n

/-- The TOP panel's LED for a band and the band's coordinates, the rotation of tall mode (R266).
`Fin.rev i` is `7 − i`. -/
def topPlace (band : Band) (xs ys : Fin 8) : LedPlace :=
  match band with
  | .front => ⟨.top, ys, xs⟩
  | .left => ⟨.top, xs, ys.rev⟩
  | .right => ⟨.top, xs.rev, ys⟩
  | .back => ⟨.top, ys.rev, xs.rev⟩

/-- Is the canvas wide (R260)? -/
def State.isWide (s : State) : Bool := s.wide

/-- Is the canvas tall? Only with `wide` (R32, R251, R260). -/
def State.isTall (s : State) : Bool := s.wide && s.tall

/-- `CW`, the canvas width (R251). -/
def State.canvasWidth (s : State) : Nat := if s.isWide then 32 else 8

/-- `CH`, the canvas height (R251). -/
def State.canvasHeight (s : State) : Nat := if s.isTall then 16 else 8

/-- The place of a canvas point inside the canvas (R263 to R266): flat, wide, or wide and tall. -/
def State.canvasPlace (s : State) (x y : Nat) : LedPlace :=
  if !s.isWide then ⟨s.gfxPanel, mod8 y, mod8 x⟩
  else if s.isTall && decide (y < 8) then topPlace (bandOf x) (mod8 x) (mod8 y)
  else ⟨(bandOf x).panel, mod8 (if s.isTall then y - 8 else y), mod8 x⟩

/-- The canvas column after wrap: `x mod CW` when `wrap` is on (R261). -/
def State.wrapX (s : State) (x : Int) : Int := if s.wrap then x % s.canvasWidth else x

/-- The target of `DRAW_PIXEL x, y` with `x`, `y` as integers, or none where the draw is dropped
(R260 to R262). -/
def State.drawTarget (s : State) (x y : Int) : Option LedPlace :=
  let x' := s.wrapX x
  if x' < 0 ∨ x' ≥ s.canvasWidth then none
  else if y < 0 ∨ y ≥ s.canvasHeight then none
  else some (s.canvasPlace x'.toNat y.toNat)

end Sys2Proof.Machine
end

