-- ==== Sys2Proof/Machine/Flags.lean ====
section
/-! DEFINITION. The pins and the single-bit registers. The block has no condition codes (R22): its
flags are the status and mode bits of R35, each written only by the commands its rule names, and the
two blanking bits drive the pin `OE_N` (R31, R40, R220). -/

namespace Sys2Proof.Machine

open Sys2Proof

/-! ## Pins -/

/-- The pin levels after one pin write (R220). -/
def Pins.write (p : Pins) : PinEvent → Pins
  | .sclk v => { p with sclk := v }
  | .sdata v => { p with sdata := v }
  | .latch v => { p with latch := v }
  | .oeN v => { p with oeN := v }
  | .rowsel v => { p with rowsel := v }

/-- Pin writes in the order listed: each sets its pin's level and is appended to the bus trace,
whether or not the level changes (R41, R220, log 10). -/
def State.drive (s : State) (events : List PinEvent) : State :=
  { s with pins := events.foldl Pins.write s.pins, trace := s.trace ++ events }

/-- `OE_N <- blankSeq | blankHold` (R40, R220). -/
def State.driveOe (s : State) : State := s.drive [.oeN (s.blankSeq || s.blankHold)]

/-! ## Flags -/

/-- `blankHold <- v; OE_N <- blankSeq | blankHold` (R301, R304, R305). -/
def State.setBlankHold (s : State) (v : Bool) : State := { s with blankHold := v }.driveOe

/-- `blankSeq <- v; OE_N <- blankSeq | blankHold` (R210 phase 2, R220, R225). -/
def State.setBlankSeq (s : State) (v : Bool) : State := { s with blankSeq := v }.driveOe

/-- `swapPending <- 1` (R183, R305). -/
def State.requestDeferredSwap (s : State) : State := { s with swapPending := true }

/-- `wide <- w; tall <- t; wrap <- x` (R251). -/
def State.setModeBits (s : State) (w t x : Bool) : State :=
  { s with wide := w, tall := t, wrap := x }

/-- `animRegistered <- present` (R302). -/
def State.setRegistered (s : State) (present : Bool) : State := { s with animRegistered := present }

end Sys2Proof.Machine
end

