-- ==== Sys2Proof/Machine/Ops.lean ====
section
/-! DEFINITION. The named operations over the frame store, the orientation flags, the role indices
and the two channels to the host. The block has no exception (R320); what stands in the place
of taking one and returning from it are the entry and the exit of an animation invocation
(R327, R329), written here once. -/

namespace Sys2Proof.Machine

open Sys2Proof

/-! ## The list of plane words -/

/-- What a number that is not listed reads as: the reset value of a plane word (R50). -/
def Memory.unlisted : PlaneWord := 0

/-- The plane word with a linear number. -/
def Memory.read : Memory → Nat → PlaneWord
  | [], _ => Memory.unlisted
  | (k, v) :: rest, a => if a = k then v else Memory.read rest a

/-- Store a plane word, keeping the canonical form: writing what an unlisted number reads as removes
the entry. -/
def Memory.write : Memory → Nat → PlaneWord → Memory
  | [], a, v => if v = Memory.unlisted then [] else [(a, v)]
  | (k, u) :: rest, a, v =>
      if a < k then
        if v = Memory.unlisted then (k, u) :: rest else (a, v) :: (k, u) :: rest
      else if a = k then
        if v = Memory.unlisted then rest else (a, v) :: rest
      else (k, u) :: Memory.write rest a v

/-- The canonical form from a least number on: numbers strictly rising and below 240 (R72), no entry
equal to what an unlisted number reads as. -/
def Memory.wfFrom (lo : Nat) : Memory → Bool
  | [] => true
  | (k, v) :: rest =>
      decide (lo ≤ k) && decide (k < 240) && decide (v ≠ Memory.unlisted) &&
        Memory.wfFrom (k + 1) rest

/-- The canonical form of the frame store's list. -/
def Memory.wf (m : Memory) : Bool := Memory.wfFrom 0 m

/-- Every listed word has 0 above its `PW` bits (R24). -/
def Memory.fits (d : Depth) (m : Memory) : Bool :=
  m.all fun cell => cell.2 &&& d.planeMask == cell.2

/-! ## The frame store and its flags -/

/-- `D` of the build (R7). -/
def State.depth (s : State) : Depth := s.build.depth

/-- `FsRead(b, p, r, c)` (R12). -/
def State.fsRead (s : State) (b : Buf) (p : Panel) (r : Fin 8) (c : Chan) : PlaneWord :=
  s.fs.read (wordNumber b p r c)

/-- `FsWrite(b, p, r, c, v)`: store `trunc_PW(v)` (R12). -/
def State.fsWrite (s : State) (b : Buf) (p : Panel) (r : Fin 8) (c : Chan) (v : PlaneWord) : State :=
  { s with fs := s.fs.write (wordNumber b p r c) (v &&& s.depth.planeMask) }

/-- `PANOR[b][p]` (R27). -/
def State.panorAt (s : State) (b : Buf) (p : Panel) : Orient :=
  (s.panor.get b.idx).get p.idx

/-- `ROWOR[b][p][r]` (R26). -/
def State.roworAt (s : State) (b : Buf) (p : Panel) (r : Fin 8) : Orient :=
  ((s.rowor.get b.idx).get p.idx).get r

/-- `PANOR[b][p] <- o` (R165). -/
def State.setPanor (s : State) (b : Buf) (p : Panel) (o : Orient) : State :=
  { s with panor :=
      s.panor.set b.idx ((s.panor.get b.idx).set p.idx o) }

/-- `ROWOR[b][p][r] <- o` (R157). -/
def State.setRowor (s : State) (b : Buf) (p : Panel) (r : Fin 8) (o : Orient) : State :=
  { s with rowor :=
      s.rowor.set b.idx ((s.rowor.get b.idx).set p.idx
        (((s.rowor.get b.idx).get p.idx).set r o)) }

/-- `ROWOR[b][p][r] <- o` for `r` in `0 .. 7` (R165). -/
def State.setAllRowor (s : State) (b : Buf) (p : Panel) (o : Orient) : State :=
  { s with rowor :=
      s.rowor.set b.idx ((s.rowor.get b.idx).set p.idx (.replicate 8 o)) }

/-! ## One LED -/

/-- The field position of an LED of a Row: `Pos(ROWOR[b][p][r], idx)` (R151, R168). -/
def State.ledField (s : State) (b : Buf) (p : Panel) (r idx : Fin 8) : Fin 8 :=
  ledPos (s.roworAt b p r) idx

/-- Put a level into one plane's field at a position (the body of R152's loop). -/
def State.writeField (s : State) (b : Buf) (p : Panel) (r pos : Fin 8) (c : Chan) (v : Level) :
    State :=
  s.fsWrite b p r c (withField s.depth (s.fsRead b p r c) pos v)

/-- Write an LED of a Row: the three planes' fields at the orientation-resolved position, plane 0, 1,
2 (R152). -/
def State.writeLed (s : State) (b : Buf) (p : Panel) (r idx : Fin 8) (px : Pixel) : State :=
  let pos := s.ledField b p r idx
  ((s.writeField b p r pos .red px.r).writeField b p r pos .green px.g).writeField b p r pos .blue
    px.b

/-- Read an LED of a Row (R154). -/
def State.readLed (s : State) (b : Buf) (p : Panel) (r idx : Fin 8) : Pixel :=
  let pos := s.ledField b p r idx
  ⟨fieldAt s.depth (s.fsRead b p r .red) pos, fieldAt s.depth (s.fsRead b p r .green) pos,
    fieldAt s.depth (s.fsRead b p r .blue) pos⟩

/-- The three plane words of a stored row, as a reply (R161, R162). -/
def State.rowReply (s : State) (b : Buf) (p : Panel) (r : Fin 8) : Reply :=
  .row (s.fsRead b p r .red) (s.fsRead b p r .green) (s.fsRead b p r .blue)

/-! ## The channel back to the host -/

/-- `return v` (R12): hand a value back to the context that issued the command (log 4). -/
def State.reply (s : State) (v : Reply) : State := { s with replies := s.replies ++ [v] }

/-! ## Roles -/

/-- `Swap()`: the two role indices change places in one transition (R184). -/
def State.swap (s : State) : State :=
  { s with displayIndex := s.animateIndex, animateIndex := s.displayIndex }

/-! ## Entry and exit of an animation invocation (R304, R305, R327, R329) -/

/-- Entry: save `blankHold`, blank the output if it was not blanked, become active (R304). -/
def State.enterAnimation (s : State) : State :=
  let saved := { s with animSavedHold := s.blankHold }
  let blanked := if s.blankHold then saved else saved.setBlankHold true
  { blanked with animActive := true }

/-- Exit: request the deferred swap if the callback is done, restore `blankHold` and drive `OE_N`,
become inactive (R305). -/
def State.exitAnimation (s : State) (done : Bool) : State :=
  let asked := if done then s.requestDeferredSwap else s
  { asked.setBlankHold asked.animSavedHold with animActive := false }

/-! ## The command stream -/

/-- The next command word of the stream, if one waits (R68, log 5). -/
def State.nextCommand (s : State) : Option CommandWord := s.commands.head?

/-- What becomes of an illegal word: it is refused with the decoder's reason (R62, R108, log 6). -/
def State.refuseWord (_ : State) (why : Illegal) : Host.Outcome State Fault Refusal :=
  .refused (.illegalCommand why)

/-- The state with the next command word taken off the stream (R68, log 5). -/
def State.takeCommand (s : State) : State := { s with commands := s.commands.tail }

/-- The host or a tick adds a command word to the end of the stream (R68, R323, log 5). -/
def State.deliver (s : State) (w : CommandWord) : State := { s with commands := s.commands ++ [w] }

end Sys2Proof.Machine
end

