-- ==== Sys2Proof/Machine/Animation.lean ====
section
/-! DEFINITION. The Animation Scheduler and host blanking (45_animation R300 to R309), and `NOP`. -/

namespace Sys2Proof.Machine

open Sys2Proof

/-- `NOP`: nothing (R109). -/
def execNop (s : State) : Host.Outcome State Fault Refusal := .next s

/-- `SET_BLANK on` (R301). -/
def execSetBlank (on : Bool) (s : State) : Host.Outcome State Fault Refusal :=
  .next (s.setBlankHold on)

/-- `ANIM_REGISTER present, period` (R302). -/
def execAnimRegister (present : Bool) (period : BitVec 32) (s : State) :
    Host.Outcome State Fault Refusal :=
  .next { s.setRegistered present with animPeriod := period }

/-- `ANIM_ENTER`: nothing when no callback is registered or one is running (R304, R308). -/
def execAnimEnter (s : State) : Host.Outcome State Fault Refusal :=
  .next (if s.animRegistered && !s.animActive then s.enterAnimation else s)

/-- `ANIM_EXIT done`: nothing when no invocation is active (R305, R308). -/
def execAnimExit (done : Bool) (s : State) : Host.Outcome State Fault Refusal :=
  .next (if s.animActive then s.exitAnimation done else s)

end Sys2Proof.Machine
end

