-- ==== Sys2Proof/Machine/Coordinate.lean ====
section
/-! DEFINITION. The Coordinate Adapter (44_coordinate_adapter R250 to R285). -/

namespace Sys2Proof.Machine

open Sys2Proof

/-- `SET_MODE wide, tall, wrap` (R251). -/
def execSetMode (wide tall wrap : Bool) (s : State) : Host.Outcome State Fault Refusal :=
  .next (s.setModeBits wide tall wrap)

/-- `SET_GFX_PANEL panel` (R252). -/
def execSetGfxPanel (panel : Panel) (s : State) : Host.Outcome State Fault Refusal :=
  .next { s with gfxPanel := panel }

/-- `DRAW_PIXEL x, y, color` (R260): write the target LED of the ANIMATE buffer, or drop. -/
def execDrawPixel (x y : BitVec 16) (color : ColorWord) (s : State) :
    Host.Outcome State Fault Refusal :=
  match s.drawTarget x.toInt y.toInt with
  | none => .next s
  | some t => .next (s.writeLed (s.buf .animate) t.panel t.row t.idx (unpackColor s.depth color))

/-- `Led(p, i) := GET_LED ANIMATE, p, 0, i`: an LED of the stored row next to TOP (R280). -/
def State.sideLed (s : State) (p : Panel) (i : Fin 8) : Pixel := s.readLed (s.buf .animate) p 0 i

/-- The adjoining side pixels of a TOP coordinate in `[0, 8) × [0, 8)`, in the order of R280. -/
def State.topNeighbors (s : State) (x y : Fin 8) : List Pixel :=
  (if x = 0 then [s.sideLed .left y] else []) ++
  (if x = 7 then [s.sideLed .right y.rev] else []) ++
  (if y = 0 then [s.sideLed .back x.rev] else []) ++
  (if y = 7 then [s.sideLed .front x] else [])

/-- The corner rule: the non-background pixel verbatim, the background if both are, the average if
neither is (R280, R282, R283). -/
def blendCorner (bg a b : Pixel) : Pixel :=
  if a = bg ∧ b = bg then bg else if a = bg then b else if b = bg then a else averagePixel a b

/-- What the neighbour query answers from its candidates (R280): none is the interior, one is an
edge, two are a corner; there are never more (R280). -/
def chooseNeighbor (bg : Pixel) : List Pixel → Pixel
  | [] => bg
  | [a] => a
  | a :: b :: _ => blendCorner bg a b

/-- The Pixel `GET_TOP_NEIGHBOR` returns (R280); the background off the TOP panel (R284, log 12). -/
def State.topNeighbor (s : State) (x y : Int) (bg : ColorWord) : Pixel :=
  let bgp := unpackColor s.depth bg
  if x < 0 ∨ x ≥ 8 ∨ y < 0 ∨ y ≥ 8 then bgp
  else chooseNeighbor bgp (s.topNeighbors (mod8 x.toNat) (mod8 y.toNat))

/-- `GET_TOP_NEIGHBOR x, y, bg` (R280). -/
def execGetTopNeighbor (x y : BitVec 16) (bg : ColorWord) (s : State) :
    Host.Outcome State Fault Refusal :=
  .next (s.reply (.pixel (s.topNeighbor x.toInt y.toInt bg)))

end Sys2Proof.Machine
end

