-- ==== Sys2Proof/Machine/FrameStore.lean ====
section
/-! DEFINITION. The Frame Store family (42_frame_store R180 to R190). -/

namespace Sys2Proof.Machine

open Sys2Proof

/-- `REQUEST_SWAP immediate` (R183): immediate exchanges the roles now, deferred sets the pending
flag. -/
def execRequestSwap (immediate : Bool) (s : State) : Host.Outcome State Fault Refusal :=
  .next (if immediate then s.swap else s.requestDeferredSwap)

end Sys2Proof.Machine
end

