-- ==== Sys2Proof/Machine/Pixel.lean ====
section
/-! DEFINITION. The Pixel family (40_pixel R130 to R137): pure functions of the operands whose value
goes back to the issuer. -/

namespace Sys2Proof.Machine

open Sys2Proof

/-- `PIXEL_NEW r, g, b`, and in-place `set` (R131, R132). -/
def execPixelNew (r g b : BitVec 8) (s : State) : Host.Outcome State Fault Refusal :=
  .next (s.reply (.pixel (pixelOf s.depth r g b)))

/-- `PIXEL_EQ r1, g1, b1, r2, g2, b2`: all three masked channels are equal (R133). -/
def execPixelEq (r1 g1 b1 r2 g2 b2 : BitVec 8) (s : State) : Host.Outcome State Fault Refusal :=
  .next (s.reply (.bit (pixelOf s.depth r1 g1 b1 == pixelOf s.depth r2 g2 b2)))

/-- `PACK r, g, b` (R134). -/
def execPack (r g b : BitVec 8) (s : State) : Host.Outcome State Fault Refusal :=
  .next (s.reply (.color (packColor s.depth (pixelOf s.depth r g b))))

/-- `UNPACK color` (R135). -/
def execUnpack (color : ColorWord) (s : State) : Host.Outcome State Fault Refusal :=
  .next (s.reply (.pixel (unpackColor s.depth color)))

end Sys2Proof.Machine
end

