-- ==== Sys2Proof/Machine/Refresh.lean ====
section
/-! DEFINITION. The Refresh Engine (43_refresh_engine R200 to R236). A step is one transition; its
three phases follow the pseudocode of R210. -/

namespace Sys2Proof.Machine

open Sys2Proof

/-! ## Phase 1: the 120 bits -/

/-- The bit of the LED at a field position of a plane word: `SCHED[(w >> (p × D)) & M][s]`
(R210, R212). -/
def State.serialBit (s : State) (w : PlaneWord) (pos : Fin 8) : Bool :=
  s.build.sched.bit (fieldAt s.depth w pos) s.subCycle

/-- The eight bits of one plane word, in `LED_ORDER` (R213). -/
def State.planeBits (s : State) (w : PlaneWord) : List Bool :=
  s.build.ledOrder.toList.map fun pos => s.serialBit w pos

/-- The 24 bits of one panel of the DISPLAY buffer: the Row of shift row `row`, its planes in
`CHAN_ORDER` (R211, R213). -/
def State.panelBits (s : State) (p : Panel) : List Bool :=
  s.build.chanOrder.toList.flatMap fun c =>
    s.planeBits
      (s.fsRead s.displayIndex p (shiftRow (s.panorAt s.displayIndex p) s.row) c)

/-- The serial frame of a step: the panels in chain order (R97, R213). -/
def State.serialFrame (s : State) : List Bool := panelChain.flatMap fun p => s.panelBits p

/-- The four pin writes of one serial bit (R221). -/
def clockBit (bit : Bool) : List PinEvent := [.sdata bit, .sclk true, .sclk false, .sdata false]

/-- Phase 1: clock out the serial frame (R210). -/
def State.clockOut (s : State) : State := s.drive (s.serialFrame.flatMap clockBit)

/-! ## Phase 2: blank, select, latch, unblank (R225) -/

/-- The row-select value of a row: 3 bits, unsigned binary (R98, R224). -/
def rowselOf (r : Fin 8) : BitVec 3 := BitVec.ofNat 3 r.val

/-- Phase 2: `OE_N <- 1`, `ROWSEL <- r`, `LATCH <- 1`, `LATCH <- 0`, `OE_N <- blankHold`, with
`blankSeq` 1 in between (R210, R224, R225). -/
def State.latchRow (s : State) : State :=
  ((s.setBlankSeq true).drive [.rowsel (rowselOf s.row), .latch true, .latch false]).setBlankSeq
    false

/-! ## Phase 3: advance (R230, R231) -/

/-- The deferred swap at a cycle boundary (R186). -/
def State.boundarySwap (s : State) : State :=
  if s.swapPending then { s.swap with swapPending := false } else s

/-- Phase 3: `row` first, then `subCycle`, then the boundary with its pending swap
(R210, R230, R231). -/
def State.advance (s : State) : State :=
  if s.row.val < 7 then { s with row := s.row + 1 }
  else if s.subCycle < s.depth.levels - 1 then { s with row := 0, subCycle := s.subCycle + 1 }
  else { s with row := 0, subCycle := 0 }.boundarySwap

/-- `REFRESH_STEP` (R210). -/
def execRefreshStep (s : State) : Host.Outcome State Fault Refusal :=
  .next s.clockOut.latchRow.advance

end Sys2Proof.Machine
end

