-- ==== Sys2Proof/Machine/RowPanel.lean ====
section
/-! DEFINITION. The Row and Panel family (41_row_panel R150 to R168). -/

namespace Sys2Proof.Machine

open Sys2Proof

/-- `SET_PANEL_ORIENT buf, panel, orient`: the Panel's flag and its eight Rows' flags (R165). -/
def execSetPanelOrient (buf : Buf) (panel : Panel) (orient : Orient) (s : State) :
    Host.Outcome State Fault Refusal :=
  .next ((s.setPanor buf panel orient).setAllRowor buf panel orient)

/-- `SET_ROW_ORIENT buf, panel, row, orient` (R157). -/
def execSetRowOrient (buf : Buf) (panel : Panel) (row : Fin 8) (orient : Orient) (s : State) :
    Host.Outcome State Fault Refusal :=
  .next (s.setRowor buf panel row orient)

/-- `IS_ORIENTED_UP buf, panel, row` (R158). -/
def execIsOrientedUp (buf : Buf) (panel : Panel) (row : Fin 8) (s : State) :
    Host.Outcome State Fault Refusal :=
  .next (s.reply (.bit (s.roworAt buf panel row == .up)))

/-- `SET_LED_PIXEL role, panel, row, idx, r, g, b` (R152). -/
def execSetLedPixel (role : Role) (panel : Panel) (row idx : Fin 8) (r g b : BitVec 8) (s : State) :
    Host.Outcome State Fault Refusal :=
  .next (s.writeLed (s.buf role) panel row idx (pixelOf s.depth r g b))

/-- `SET_LED_COLOR role, panel, row, idx, color` (R153). -/
def execSetLedColor (role : Role) (panel : Panel) (row idx : Fin 8) (color : ColorWord)
    (s : State) : Host.Outcome State Fault Refusal :=
  .next (s.writeLed (s.buf role) panel row idx (unpackColor s.depth color))

/-- `GET_LED role, panel, row, idx` (R154). -/
def execGetLed (role : Role) (panel : Panel) (row idx : Fin 8) (s : State) :
    Host.Outcome State Fault Refusal :=
  .next (s.reply (.pixel (s.readLed (s.buf role) panel row idx)))

/-- `GET_ROW role, panel, row`: the stored row's three plane words (R161). -/
def execGetRow (role : Role) (panel : Panel) (row : Fin 8) (s : State) :
    Host.Outcome State Fault Refusal :=
  .next (s.reply (s.rowReply (s.buf role) panel row))

/-- `GET_SHIFT_ROW role, panel, row`: the row the Panel's orientation gives (R162, R163). -/
def execGetShiftRow (role : Role) (panel : Panel) (row : Fin 8) (s : State) :
    Host.Outcome State Fault Refusal :=
  .next (s.reply (s.rowReply (s.buf role) panel (shiftRow (s.panorAt (s.buf role) panel) row)))

end Sys2Proof.Machine
end

