-- ==== Sys2Proof/Machine/Dispatch.lean ====
section
/-! DEFINITION. One arm per command (R106). -/

namespace Sys2Proof.Machine

open Sys2Proof

def exec (i : Instr) (s : State) : Host.Outcome State Fault Refusal :=
  match i with
  | .nop => Sys2Proof.Machine.execNop s
  | .setPanelOrient buf panel orient => Sys2Proof.Machine.execSetPanelOrient buf panel orient s
  | .setRowOrient buf panel row orient => Sys2Proof.Machine.execSetRowOrient buf panel row orient s
  | .isOrientedUp buf panel row => Sys2Proof.Machine.execIsOrientedUp buf panel row s
  | .setMode wide tall wrap => Sys2Proof.Machine.execSetMode wide tall wrap s
  | .setGfxPanel panel => Sys2Proof.Machine.execSetGfxPanel panel s
  | .setLedPixel role panel row idx r g b => Sys2Proof.Machine.execSetLedPixel role panel row idx r g b s
  | .setLedColor role panel row idx color => Sys2Proof.Machine.execSetLedColor role panel row idx color s
  | .getLed role panel row idx => Sys2Proof.Machine.execGetLed role panel row idx s
  | .getRow role panel row => Sys2Proof.Machine.execGetRow role panel row s
  | .getShiftRow role panel row => Sys2Proof.Machine.execGetShiftRow role panel row s
  | .requestSwap immediate => Sys2Proof.Machine.execRequestSwap immediate s
  | .setBlank on => Sys2Proof.Machine.execSetBlank on s
  | .drawPixel x y color => Sys2Proof.Machine.execDrawPixel x y color s
  | .getTopNeighbor x y bg => Sys2Proof.Machine.execGetTopNeighbor x y bg s
  | .animRegister present period => Sys2Proof.Machine.execAnimRegister present period s
  | .animEnter => Sys2Proof.Machine.execAnimEnter s
  | .animExit done => Sys2Proof.Machine.execAnimExit done s
  | .refreshStep => Sys2Proof.Machine.execRefreshStep s
  | .pack r g b => Sys2Proof.Machine.execPack r g b s
  | .unpack color => Sys2Proof.Machine.execUnpack color s
  | .pixelNew r g b => Sys2Proof.Machine.execPixelNew r g b s
  | .pixelEq r1 g1 b1 r2 g2 b2 => Sys2Proof.Machine.execPixelEq r1 g1 b1 r2 g2 b2 s

end Sys2Proof.Machine
end

