-- ==== Sys2Proof/Machine/Step.lean ====
section
/-! DEFINITION. One step of the block: the next command of the one sequence of R68 takes effect, as one
transition (R66, R67). The block fetches nothing from a memory (R74): its commands arrive (log 5). -/

namespace Sys2Proof.Machine

open Sys2Proof

/-- One step. With no command waiting the block waits and nothing changes (R350). An illegal word is
refused by name (R108, log 6). Otherwise the word leaves the stream and its command takes effect. -/
def step (s : State) : Host.Outcome State Fault Refusal :=
  match s.nextCommand with
  | none => .next s
  | some w =>
    match decode w with
    | .error why => s.refuseWord why
    | .ok i => exec i s.takeCommand

/-- The state with the command word of table number `w` (`nbits` bits, the bits above them 0) next in
the command stream, before everything that waits there. -/
def State.withFetchWord (s : State) (nbits w : Nat) : State :=
  { s with commands := tableWord nbits w :: s.commands }

end Sys2Proof.Machine
end

