-- ==== Sys2Proof/Machine/Chain.lean ====
section
/-! DEFINITION. What the pins drive (R45, R233): the external shift-register chain, the output register
and the LEDs, as an observer of the bus trace. It is outside the block (00_scope R5), no part of State
and no rule of the block depends on it; its contents before the first event are any value (R50). From
general knowledge in the spec's own words (93_implementation_defined G1). Log 11. -/

namespace Sys2Proof.Machine

open Sys2Proof

/-- The chain as the pins have left it: the levels last seen, the 120 shift stages, the output
register. Stage `k` is bit `k` (R45). -/
structure Chain where
  pins : Pins
  /-- `CHAIN`. -/
  stages : BitVec 120
  /-- `OUTREG`. -/
  outreg : BitVec 120
deriving DecidableEq, Repr

/-- One event reaches the chain: a rising edge of `SCLK` shifts `SDATA` into stage 0, a rising edge of
`LATCH` copies the stages to the output register (R45). -/
def Chain.event (c : Chain) (e : PinEvent) : Chain :=
  { pins := c.pins.write e
    stages := if !c.pins.sclk && (c.pins.write e).sclk then c.stages.shiftConcat c.pins.sdata
              else c.stages
    outreg := if !c.pins.latch && (c.pins.write e).latch then c.stages else c.outreg }

/-- The chain after a stretch of the bus trace. -/
def Chain.run (c : Chain) (events : List PinEvent) : Chain := events.foldl Chain.event c

/-- Is the LED of a stage lit in a physical row (R45)? -/
def Chain.lit (c : Chain) (row : Fin 8) (stage : Nat) : Bool :=
  !c.pins.oeN && c.pins.rowsel == BitVec.ofNat 3 row.val && c.outreg.getLsbD stage

/-- The chain that the block's whole trace leaves, from any starting contents (R50). -/
def State.chainFrom (s : State) (stages outreg : BitVec 120) : Chain :=
  Chain.run ⟨Pins.reset, stages, outreg⟩ s.trace

end Sys2Proof.Machine
end

