-- ==== Sys2Proof/Machine/Pseudo.lean ====
section
/-! DEFINITION. The pseudo-commands (R112) as lists of commands, and the assembler text of a command
(R111). -/

namespace Sys2Proof

/-! ## Pseudo-commands (R112) -/

/-- `SWAP`: the deferred request, the source's default. -/
def swapCommands : List Instr := [.requestSwap false]

/-- `SWAP_NOW`. -/
def swapNowCommands : List Instr := [.requestSwap true]

/-- `PIXEL_SET r, g, b` (R132). -/
def pixelSetCommands (r g b : BitVec 8) : List Instr := [.pixelNew r g b]

/-- `ORIENT panel, o`: the same orientation for the panel in both buffers. -/
def orientCommands (panel : Panel) (o : Orient) : List Instr :=
  [.setPanelOrient .bufA panel o, .setPanelOrient .bufB panel o]

/-- `REFRESH n`: `n` refresh ticks. -/
def refreshCommands (n : Nat) : List Instr := List.replicate n .refreshStep

/-- `CYCLE`: `R × N` refresh ticks. -/
def cycleCommands (d : Depth) : List Instr := refreshCommands (8 * d.levels)

/-- `ANIM_TICK done { body }`: one invocation of the Animation Scheduler (R303). -/
def animTickCommands (done : Bool) (body : List Instr) : List Instr :=
  .animEnter :: body ++ [.animExit done]

/-! ## Assembler text (R111) -/

/-- The symbol of a buffer. -/
def Buf.text : Buf → String
  | .bufA => "A"
  | .bufB => "B"

/-- The symbol of a role. -/
def Role.text : Role → String
  | .display => "DISPLAY"
  | .animate => "ANIMATE"

/-- The symbol of a panel. -/
def Panel.text : Panel → String
  | .back => "BACK"
  | .top => "TOP"
  | .left => "LEFT"
  | .front => "FRONT"
  | .right => "RIGHT"

/-- The symbol of an orientation. -/
def Orient.text : Orient → String
  | .up => "UP"
  | .down => "DOWN"

/-- A flag as a number. -/
def flagText (f : Bool) : String := if f then "1" else "0"

/-- A colour word as `0x` and four hexadecimal digits. -/
def colorText (c : ColorWord) : String := "0x" ++ (BitVec.toHex c).toUpper

/-- The mnemonic of a command (R106). -/
def Instr.mnemonic : Instr → String
  | .nop => "NOP"
  | .setPanelOrient _ _ _ => "SET_PANEL_ORIENT"
  | .setRowOrient _ _ _ _ => "SET_ROW_ORIENT"
  | .isOrientedUp _ _ _ => "IS_ORIENTED_UP"
  | .setMode _ _ _ => "SET_MODE"
  | .setGfxPanel _ => "SET_GFX_PANEL"
  | .setLedPixel _ _ _ _ _ _ _ => "SET_LED_PIXEL"
  | .setLedColor _ _ _ _ _ => "SET_LED_COLOR"
  | .getLed _ _ _ _ => "GET_LED"
  | .getRow _ _ _ => "GET_ROW"
  | .getShiftRow _ _ _ => "GET_SHIFT_ROW"
  | .requestSwap _ => "REQUEST_SWAP"
  | .setBlank _ => "SET_BLANK"
  | .drawPixel _ _ _ => "DRAW_PIXEL"
  | .getTopNeighbor _ _ _ => "GET_TOP_NEIGHBOR"
  | .animRegister _ _ => "ANIM_REGISTER"
  | .animEnter => "ANIM_ENTER"
  | .animExit _ => "ANIM_EXIT"
  | .refreshStep => "REFRESH_STEP"
  | .pack _ _ _ => "PACK"
  | .unpack _ => "UNPACK"
  | .pixelNew _ _ _ => "PIXEL_NEW"
  | .pixelEq _ _ _ _ _ _ => "PIXEL_EQ"

/-- The operands of a command as text, in the order of R106: numbers in decimal, colour words in
hexadecimal (log 20). -/
def Instr.operandTexts : Instr → List String
  | .nop => []
  | .setPanelOrient b p o => [b.text, p.text, o.text]
  | .setRowOrient b p r o => [b.text, p.text, toString r.val, o.text]
  | .isOrientedUp b p r => [b.text, p.text, toString r.val]
  | .setMode w t x => [flagText w, flagText t, flagText x]
  | .setGfxPanel p => [p.text]
  | .setLedPixel q p r i cr cg cb =>
      [q.text, p.text, toString r.val, toString i.val,
        toString cr.toNat, toString cg.toNat, toString cb.toNat]
  | .setLedColor q p r i c => [q.text, p.text, toString r.val, toString i.val, colorText c]
  | .getLed q p r i => [q.text, p.text, toString r.val, toString i.val]
  | .getRow q p r => [q.text, p.text, toString r.val]
  | .getShiftRow q p r => [q.text, p.text, toString r.val]
  | .requestSwap f => [flagText f]
  | .setBlank f => [flagText f]
  | .drawPixel x y c => [toString x.toInt, toString y.toInt, colorText c]
  | .getTopNeighbor x y c => [toString x.toInt, toString y.toInt, colorText c]
  | .animRegister f n => [flagText f, toString n.toNat]
  | .animEnter => []
  | .animExit f => [flagText f]
  | .refreshStep => []
  | .pack r g b => [toString r.toNat, toString g.toNat, toString b.toNat]
  | .unpack c => [colorText c]
  | .pixelNew r g b => [toString r.toNat, toString g.toNat, toString b.toNat]
  | .pixelEq r1 g1 b1 r2 g2 b2 =>
      [toString r1.toNat, toString g1.toNat, toString b1.toNat,
        toString r2.toNat, toString g2.toNat, toString b2.toNat]

/-- A command in the assembler syntax: its mnemonic, then its operands separated by commas. -/
def Instr.text (i : Instr) : String :=
  match i.operandTexts with
  | [] => i.mnemonic
  | operands => i.mnemonic ++ " " ++ ", ".intercalate operands

end Sys2Proof
end

