-- ==== Sys2Proof/Safety.lean ====
section
/-! DEFINITION. The terms claims use: who issues a command, runs of commands, the invariant of R36, the
bus protocol of R223, the access discipline of R69. -/

namespace Sys2Proof.Machine

open Sys2Proof

/-! ## Contexts and runs -/

/-- The two execution contexts (R18). -/
inductive Context where
  | refresh | animation
deriving DecidableEq, Repr

/-- Who issues a command: `REFRESH_STEP` the refresh context, every other the animation context
(R106). -/
def contextOf : Instr → Context
  | .refreshStep => .refresh
  | _ => .animation

/-- Commands executed one after the other, each a whole transition (R66 to R68). -/
def execAll : List Instr → State → Host.Outcome State Fault Refusal
  | [], s => .next s
  | i :: rest, s =>
    match exec i s with
    | .next t => execAll rest t
    | .fault f => .fault f
    | .refused r => .refused r

/-- The state an outcome goes on in, if it goes on. -/
def nextState : Host.Outcome State Fault Refusal → Option State
  | .next t => some t
  | .fault _ => none
  | .refused _ => none

/-- The state after `n` refresh steps and nothing else. -/
def refreshed (n : Nat) (s : State) : State :=
  (nextState (execAll (refreshCommands n) s)).getD s

/-! ## The bus trace -/

/-- Is this a write of the pin `LATCH`? -/
def PinEvent.isLatch : PinEvent → Bool
  | .latch _ => true
  | _ => false

/-- The pin levels after a stretch of the trace (R41). -/
def Pins.after (p : Pins) (events : List PinEvent) : Pins := events.foldl Pins.write p

/-- What one event must respect, given the levels before it (R223 points 1, 3 and 4): `SCLK` is 0
whenever another pin is written, `LATCH` rises only while `OE_N = 1`, `ROWSEL` changes only while
`OE_N = 1`. -/
def eventAllowed (p : Pins) : PinEvent → Bool
  | .sclk _ => true
  | .sdata _ => !p.sclk
  | .oeN _ => !p.sclk
  | .latch v => !p.sclk && (p.oeN || p.latch || !v)
  | .rowsel v => !p.sclk && (p.oeN || v == p.rowsel)

/-- Every event of a stretch of trace respects the protocol. -/
def protocolOk (p : Pins) : List PinEvent → Bool
  | [] => true
  | e :: rest => eventAllowed p e && protocolOk (p.write e) rest

/-- The level of `SDATA` at each rising edge of `SCLK`, in order: the bits the chain takes (R40, R223
point 2). -/
def sampledBits (p : Pins) : List PinEvent → List Bool
  | [] => []
  | e :: rest =>
    (if !p.sclk && (p.write e).sclk then [p.sdata] else []) ++ sampledBits (p.write e) rest

/-- How often `LATCH` rises. -/
def latchRises (p : Pins) : List PinEvent → Nat
  | [] => 0
  | e :: rest => (!p.latch && (p.write e).latch).toNat + latchRises (p.write e) rest

/-- The pins the refresh context alone writes (R335): all but `OE_N`. -/
def Pins.scanPins (p : Pins) : Bool × Bool × Bool × BitVec 3 := (p.sclk, p.sdata, p.latch, p.rowsel)

/-! ## The invariant -/

/-- A level has no bit above its `D` (R92). -/
def Level.fits (d : Depth) (v : Level) : Bool := v &&& d.mask == v

/-- A Pixel's channels are in `[0, M]` (R92). -/
def Pixel.fits (d : Depth) (px : Pixel) : Bool :=
  Level.fits d px.r && Level.fits d px.g && Level.fits d px.b

/-- A reply holds values of the build's widths (R24, R92). -/
def Reply.fits (d : Depth) : Reply → Bool
  | .bit _ => true
  | .color _ => true
  | .pixel px => px.fits d
  | .row r g b =>
    r &&& d.planeMask == r && g &&& d.planeMask == g && b &&& d.planeMask == b

/-- What every reachable state satisfies (R36), with the canonical form of the model's memory, the
widths of its words, and the pins as the trace leaves them (R41). -/
structure State.Inv (s : State) : Prop where
  /-- R36 point 1. -/
  rolesDistinct : s.animateIndex = s.displayIndex.other
  /-- R36 point 2 (`row < 8` holds by its type). -/
  subCycleInRange : s.subCycle < s.depth.levels
  /-- The list of plane words is in its canonical form. -/
  memoryCanonical : s.fs.wf = true
  /-- R36 point 4, R24: a plane word has `PW` bits. -/
  wordsFit : s.fs.fits s.depth = true
  /-- R92: what was handed back is of the build's widths. -/
  repliesFit : (s.replies.all fun v => v.fits s.depth) = true
  /-- R36 point 5: `blankSeq` is 1 exactly until the first refresh step, the first to write `LATCH`. -/
  blankSeqUntilFirstStep : s.blankSeq = !s.trace.any PinEvent.isLatch
  /-- R36 point 6. -/
  busIdle : s.pins.sclk = false ∧ s.pins.sdata = false ∧ s.pins.latch = false
  /-- R40: `OE_N = blankSeq | blankHold`. -/
  outputEnable : s.pins.oeN = (s.blankSeq || s.blankHold)
  /-- R41: the level of a pin is the value of its last event, or its reset level. -/
  levelsFollowTrace : Pins.reset.after s.trace = s.pins
  /-- R223: the whole trace respects the bus protocol. -/
  protocol : protocolOk Pins.reset s.trace = true

/-! ## The access discipline and the frame -/

/-- The command writes a plane word or an orientation flag of the buffer that is displayed, or swaps the
roles at once: what R69 and R77 ask the host not to do. -/
def disturbsDisplay (s : State) : Instr → Bool
  | .setLedPixel role _ _ _ _ _ _ => s.buf role == s.displayIndex
  | .setLedColor role _ _ _ _ => s.buf role == s.displayIndex
  | .setPanelOrient buf _ _ => buf == s.displayIndex
  | .setRowOrient buf _ _ _ => buf == s.displayIndex
  | .requestSwap immediate => immediate
  | _ => false

/-- Commands none of which disturbs the display when its turn comes. -/
def undisturbed : List Instr → State → Prop
  | [], _ => True
  | i :: rest, s => disturbsDisplay s i = false ∧ ∀ t, exec i s = .next t → undisturbed rest t

/-- Two states hold the same plane words in a buffer. -/
def sameWords (s t : State) (b : Buf) : Prop :=
  ∀ p r c, t.fsRead b p r c = s.fsRead b p r c

/-- The two buffers agree on every Panel's orientation (R352, 93_implementation_defined U2). -/
def State.wellConfigured (s : State) : Prop :=
  ∀ p, s.panorAt .bufA p = s.panorAt .bufB p

/-- The number of steps until the boundary that performs a deferred swap:
`(N − 1 − s) × R + (R − r)` (R187). -/
def State.stepsToBoundary (s : State) : Nat :=
  (s.depth.levels - 1 - s.subCycle) * 8 + (8 - s.row.val)

end Sys2Proof.Machine
end

