-- ==== Sys2Proof/Certificates/Slice0/Obligations.lean ====
section
/-! DEFINITION. The statements for the provers, by family. A result of a command is an equation
`exec … = .next …`, so it says where the command completes as well as what it does.

`t = { s with fs := t.fs }` reads: nothing but `fs` differs between `s` and `t`. -/

open Sys2Proof Sys2Proof.Machine

/-! ## Encoding -/

/-- R100 to R102: decoding the word of any command gives the command back, every operand at every
value. -/
def Obligations.DecodeOfEncode : Prop :=
  ∀ i : Instr, decode (encode i) = .ok i

/-- R100 to R102: a word has one meaning: the word of the command it decodes to is the word itself. -/
def Obligations.EncodeOfDecode : Prop :=
  ∀ (w : CommandWord) (i : Instr), decode w = .ok i → encode i = w

/-- R106, R108: the decoder accepts exactly the words that some row of the opcode map selects by its
match and mask, with the panel at most 4. -/
def Obligations.DecodesExactlyLegalWords : Prop :=
  ∀ w : CommandWord, (∃ i, decode w = .ok i) ↔ legalWord w = true

/-- Words written out in the spec decode to the commands the spec says (R109, R111, R157, R165, R251,
R252, R260, R302, 95_test_vectors V1, V2, V5, V6, V8). -/
def Obligations.SpecWordsDecode : Prop :=
  decode 0x0000000000000000 = .ok .nop ∧
  decode 0x110103020500F800 = .ok (.setLedColor .animate .front 2 5 0xF800) ∧
  decode 0x0200010301000000 = .ok (.setRowOrient .bufA .top 3 .down) ∧
  decode 0x0101010001000000 = .ok (.setPanelOrient .bufB .top .down) ∧
  decode 0x0400000000000003 = .ok (.setMode true true false) ∧
  decode 0x0500010000000000 = .ok (.setGfxPanel .top) ∧
  decode 0x3000FFFF0008F800 = .ok (.drawPixel (-1) 8 0xF800) ∧
  decode 0x3100000300031234 = .ok (.getTopNeighbor 3 3 0x1234) ∧
  decode 0x4000000100000032 = .ok (.animRegister true 50) ∧
  decode 0x6300010203050607 = .ok (.pixelEq 1 2 3 5 6 7) ∧
  decode 0x1001000300FF0609 = .ok (.setLedPixel .animate .back 3 0 0xFF 0x06 0x09) ∧
  decode 0x5000000000000000 = .ok .refreshStep

/-! ## Step -/

/-- R66 to R68: when a legal word is next in the command stream, a step is its command's effect at the
state with the word taken off. -/
def Obligations.StepRunsDecodedCommand : Prop :=
  ∀ (s : State) (w : CommandWord) (rest : List CommandWord) (i : Instr),
    s.commands = w :: rest → decode w = .ok i → step s = exec i { s with commands := rest }

/-- The model's choices (log 5, log 6): with no command waiting a step changes nothing; an illegal word
is refused with the decoder's reason. -/
def Obligations.StepWaitsOrRefuses : Prop :=
  (∀ s : State, s.commands = [] → step s = .next s) ∧
  ∀ (s : State) (w : CommandWord) (rest : List CommandWord) (why : Illegal),
    s.commands = w :: rest → decode w = .error why → step s = .refused (.illegalCommand why)

/-- R320: no command faults and none is refused, in any state. -/
def Obligations.EveryCommandGoesOn : Prop :=
  ∀ (i : Instr) (s : State), ∃ t, exec i s = .next t

/-! ## Reset and the invariant -/

/-- R50: the reset values, for every build. -/
def Obligations.ResetValues : Prop :=
  ∀ build : Build, ∃ s, s = State.resetWith build ∧ s.build = build ∧
    (∀ b p r c, s.fsRead b p r c = 0) ∧ (∀ b p, s.panorAt b p = .up) ∧
    (∀ b p r, s.roworAt b p r = .up) ∧
    s.displayIndex = .bufA ∧ s.animateIndex = .bufB ∧ s.swapPending = false ∧
    s.subCycle = 0 ∧ s.row = 0 ∧ s.blankSeq = true ∧ s.blankHold = false ∧
    s.wide = false ∧ s.tall = false ∧ s.wrap = false ∧ s.gfxPanel = .back ∧
    s.animRegistered = false ∧ s.animPeriod = 0 ∧ s.animActive = false ∧ s.animSavedHold = false ∧
    s.pins.sclk = false ∧ s.pins.sdata = false ∧ s.pins.latch = false ∧ s.pins.oeN = true ∧
    s.pins.rowsel = 0 ∧ s.trace = []

/-- R36, R223: the reset state of every build satisfies the invariant. -/
def Obligations.ResetHasInvariant : Prop :=
  ∀ build : Build, (State.resetWith build).Inv

/-- R36, R223: every step keeps the invariant. -/
def Obligations.StepKeepsInvariant : Prop :=
  ∀ s t : State, s.Inv → step s = .next t → t.Inv

/-- R351: the first refresh step after reset, for every build whose table meets R201: 120 zero bits,
the output enabled on a dark row, the sequencer at (0, 1). -/
def Obligations.FirstStepAfterReset : Prop :=
  ∀ build : Build, build.sched.wf = true →
    ∃ t, exec .refreshStep (State.resetWith build) = .next t ∧
      t.trace = (List.replicate 120 false).flatMap clockBit ++
        [.oeN true, .rowsel 0, .latch true, .latch false, .oeN false] ∧
      t.pins.oeN = false ∧ t.blankSeq = false ∧ t.subCycle = 0 ∧ t.row = 1

/-! ## Pixel family -/

/-- R131: `PIXEL_NEW` returns the operands masked to `D` bits and changes nothing else. -/
def Obligations.PixelNewMasks : Prop :=
  ∀ (s : State) (r g b : BitVec 8), ∃ px : Pixel,
    exec (.pixelNew r g b) s = .next { s with replies := s.replies ++ [.pixel px] } ∧
    px.r.toNat = r.toNat % 2 ^ s.depth.bits ∧ px.g.toNat = g.toNat % 2 ^ s.depth.bits ∧
    px.b.toNat = b.toNat % 2 ^ s.depth.bits

/-- R133: `PIXEL_EQ` returns 1 exactly when the masked channels agree, all three. -/
def Obligations.PixelEqComparesMasked : Prop :=
  ∀ (s : State) (r1 g1 b1 r2 g2 b2 : BitVec 8),
    exec (.pixelEq r1 g1 b1 r2 g2 b2) s = .next { s with replies := s.replies ++ [.bit (decide
      (r1.toNat % 2 ^ s.depth.bits = r2.toNat % 2 ^ s.depth.bits ∧
       g1.toNat % 2 ^ s.depth.bits = g2.toNat % 2 ^ s.depth.bits ∧
       b1.toNat % 2 ^ s.depth.bits = b2.toNat % 2 ^ s.depth.bits))] }

/-- R134: `PACK` puts each masked channel in the top `D` bits of its colour field, zeros elsewhere. -/
def Obligations.PackPlacesChannels : Prop :=
  ∀ (s : State) (r g b : BitVec 8), ∃ c : ColorWord,
    exec (.pack r g b) s = .next { s with replies := s.replies ++ [.color c] } ∧
    c.toNat = r.toNat % 2 ^ s.depth.bits * 2 ^ (16 - s.depth.bits) +
      g.toNat % 2 ^ s.depth.bits * 2 ^ (11 - s.depth.bits) +
      b.toNat % 2 ^ s.depth.bits * 2 ^ (5 - s.depth.bits)

/-- R135: `UNPACK` keeps the top `D` bits of each colour field. -/
def Obligations.UnpackKeepsTopBits : Prop :=
  ∀ (s : State) (c : ColorWord), ∃ px : Pixel,
    exec (.unpack c) s = .next { s with replies := s.replies ++ [.pixel px] } ∧
    px.r.toNat = c.toNat / 2 ^ (16 - s.depth.bits) % 2 ^ s.depth.bits ∧
    px.g.toNat = c.toNat / 2 ^ (11 - s.depth.bits) % 2 ^ s.depth.bits ∧
    px.b.toNat = c.toNat / 2 ^ (5 - s.depth.bits) % 2 ^ s.depth.bits

/-- R136: unpacking a packed Pixel gives the Pixel back, for every Pixel of the build; the other way
round fails at `0xFFFF`. -/
def Obligations.QuantizationRoundTrip : Prop :=
  (∀ (s : State) (r g b : BitVec 8), r.toNat < 2 ^ s.depth.bits → g.toNat < 2 ^ s.depth.bits →
    b.toNat < 2 ^ s.depth.bits → ∃ (c : ColorWord) (px : Pixel),
      exec (.pack r g b) s = .next { s with replies := s.replies ++ [.color c] } ∧
      exec (.unpack c) s = .next { s with replies := s.replies ++ [.pixel px] } ∧
      px.r.toNat = r.toNat ∧ px.g.toNat = g.toNat ∧ px.b.toNat = b.toNat) ∧
  ∀ s : State, s.depth = .two → ∃ px : Pixel,
    exec (.unpack 0xFFFF) s = .next { s with replies := s.replies ++ [.pixel px] } ∧
    exec (.pack (px.r.setWidth 8) (px.g.setWidth 8) (px.b.setWidth 8)) s =
      .next { s with replies := s.replies ++ [.color 0xC618] }

/-! ## Row and Panel family -/

/-- R152: `SET_LED_PIXEL` puts the masked channels into the three planes' fields at the
orientation-resolved position of the Row; the other seven fields, every other plane word and every
other piece of state are unchanged. The premise is the canonical form of the model's memory. -/
def Obligations.SetLedPixelWritesOneField : Prop :=
  ∀ (s : State) (role : Role) (panel : Panel) (row idx : Fin 8) (r g b : BitVec 8),
    s.fs.wf = true → ∃ t, exec (.setLedPixel role panel row idx r g b) s = .next t ∧
      t = { s with fs := t.fs } ∧
      (∀ pos : Fin 8,
        pos.val = (match s.roworAt (s.buf role) panel row with
          | .up => idx.val
          | .down => 7 - idx.val) →
        (fieldAt s.depth (t.fsRead (s.buf role) panel row .red) pos).toNat =
          r.toNat % 2 ^ s.depth.bits ∧
        (fieldAt s.depth (t.fsRead (s.buf role) panel row .green) pos).toNat =
          g.toNat % 2 ^ s.depth.bits ∧
        (fieldAt s.depth (t.fsRead (s.buf role) panel row .blue) pos).toNat =
          b.toNat % 2 ^ s.depth.bits ∧
        ∀ (c : Chan) (other : Fin 8), other ≠ pos →
          fieldAt s.depth (t.fsRead (s.buf role) panel row c) other =
            fieldAt s.depth (s.fsRead (s.buf role) panel row c) other) ∧
      ∀ a : Nat, (∀ c, a ≠ wordNumber (s.buf role) panel row c) → t.fs.read a = s.fs.read a

/-- R153: `SET_LED_COLOR` has exactly the effect of `SET_LED_PIXEL` with the channels `UNPACK` gives. -/
def Obligations.SetLedColorIsSetLedPixelOfUnpack : Prop :=
  ∀ (s : State) (role : Role) (panel : Panel) (row idx : Fin 8) (color : ColorWord),
    ∃ (px : Pixel) (t : State),
      exec (.unpack color) s = .next { s with replies := s.replies ++ [.pixel px] } ∧
      exec (.setLedColor role panel row idx color) s = .next t ∧
      exec (.setLedPixel role panel row idx (px.r.setWidth 8) (px.g.setWidth 8) (px.b.setWidth 8)) s
        = .next t

/-- R154: `GET_LED` returns the three fields at the orientation-resolved position and changes nothing
else. -/
def Obligations.GetLedReadsField : Prop :=
  ∀ (s : State) (role : Role) (panel : Panel) (row idx : Fin 8), ∃ (px : Pixel) (pos : Nat),
    exec (.getLed role panel row idx) s = .next { s with replies := s.replies ++ [.pixel px] } ∧
    (s.roworAt (s.buf role) panel row = .up → pos = idx.val) ∧
    (s.roworAt (s.buf role) panel row = .down → pos = 7 - idx.val) ∧
    px.r.toNat = (s.fsRead (s.buf role) panel row .red).toNat / 2 ^ (pos * s.depth.bits) %
      2 ^ s.depth.bits ∧
    px.g.toNat = (s.fsRead (s.buf role) panel row .green).toNat / 2 ^ (pos * s.depth.bits) %
      2 ^ s.depth.bits ∧
    px.b.toNat = (s.fsRead (s.buf role) panel row .blue).toNat / 2 ^ (pos * s.depth.bits) %
      2 ^ s.depth.bits

/-- R155: after a write of LED `i`, `GET_LED i` returns the masked channels, and `GET_LED j` for every
other `j` what it returned before. -/
def Obligations.WriteThenRead : Prop :=
  ∀ (s : State) (role : Role) (panel : Panel) (row i : Fin 8) (r g b : BitVec 8), s.fs.wf = true →
    ∃ (t : State) (px : Pixel), exec (.setLedPixel role panel row i r g b) s = .next t ∧
      exec (.pixelNew r g b) s = .next { s with replies := s.replies ++ [.pixel px] } ∧
      exec (.getLed role panel row i) t = .next { t with replies := t.replies ++ [.pixel px] } ∧
      ∀ j : Fin 8, j ≠ i → ∃ qx : Pixel,
        exec (.getLed role panel row j) s = .next { s with replies := s.replies ++ [.pixel qx] } ∧
        exec (.getLed role panel row j) t = .next { t with replies := t.replies ++ [.pixel qx] }

/-- R157: `SET_ROW_ORIENT` writes one Row's flag and nothing else. -/
def Obligations.SetRowOrientWritesOneFlag : Prop :=
  ∀ (s : State) (buf : Buf) (panel : Panel) (row : Fin 8) (o : Orient),
    ∃ t, exec (.setRowOrient buf panel row o) s = .next t ∧ t = { s with rowor := t.rowor } ∧
      t.roworAt buf panel row = o ∧
      ∀ b' p' r', (b', p', r') ≠ (buf, panel, row) → t.roworAt b' p' r' = s.roworAt b' p' r'

/-- R158: `IS_ORIENTED_UP` returns whether the Row's flag is UP, and changes nothing else. -/
def Obligations.IsOrientedUpReadsFlag : Prop :=
  ∀ (s : State) (buf : Buf) (panel : Panel) (row : Fin 8),
    (s.roworAt buf panel row = .up →
      exec (.isOrientedUp buf panel row) s =
        .next { s with replies := s.replies ++ [.bit true] }) ∧
    (s.roworAt buf panel row = .down →
      exec (.isOrientedUp buf panel row) s =
        .next { s with replies := s.replies ++ [.bit false] })

/-- R159: orientation commands leave every plane word as it is; turning an UP Row DOWN makes LED `i`
read what LED `7 − i` read. -/
def Obligations.OrientationMovesNoData : Prop :=
  (∀ (s : State) (buf : Buf) (panel : Panel) (row : Fin 8) (o : Orient), ∃ t u,
    exec (.setRowOrient buf panel row o) s = .next t ∧ t.fs = s.fs ∧
    exec (.setPanelOrient buf panel o) s = .next u ∧ u.fs = s.fs) ∧
  ∀ (s : State) (role : Role) (panel : Panel) (row i : Fin 8),
    s.roworAt (s.buf role) panel row = .up → ∃ (t : State) (px : Pixel),
      exec (.setRowOrient (s.buf role) panel row .down) s = .next t ∧
      exec (.getLed role panel row i.rev) s = .next { s with replies := s.replies ++ [.pixel px] } ∧
      exec (.getLed role panel row i) t = .next { t with replies := t.replies ++ [.pixel px] }

/-- R161: `GET_ROW` returns the three plane words of the stored row whatever the Panel's orientation,
and changes nothing else. -/
def Obligations.GetRowReadsStoredRow : Prop :=
  ∀ (s : State) (role : Role) (panel : Panel) (row : Fin 8),
    exec (.getRow role panel row) s = .next { s with replies := s.replies ++
      [.row (s.fsRead (s.buf role) panel row .red) (s.fsRead (s.buf role) panel row .green)
        (s.fsRead (s.buf role) panel row .blue)] }

/-- R162, R163: `GET_SHIFT_ROW i` returns the plane words of stored row `i` of an UP Panel and of stored
row `7 − i` of a DOWN Panel, and changes nothing else. -/
def Obligations.GetShiftRowFollowsPanel : Prop :=
  ∀ (s : State) (role : Role) (panel : Panel) (row : Fin 8), ∃ sr : Fin 8,
    (s.panorAt (s.buf role) panel = .up → sr.val = row.val) ∧
    (s.panorAt (s.buf role) panel = .down → sr.val = 7 - row.val) ∧
    exec (.getShiftRow role panel row) s = .next { s with replies := s.replies ++
      [.row (s.fsRead (s.buf role) panel sr .red) (s.fsRead (s.buf role) panel sr .green)
        (s.fsRead (s.buf role) panel sr .blue)] }

/-- R165: `SET_PANEL_ORIENT` writes the Panel's flag and its eight Rows' flags, and nothing else. -/
def Obligations.SetPanelOrientPropagates : Prop :=
  ∀ (s : State) (buf : Buf) (panel : Panel) (o : Orient),
    ∃ t, exec (.setPanelOrient buf panel o) s = .next t ∧
      t = { s with panor := t.panor, rowor := t.rowor } ∧
      t.panorAt buf panel = o ∧ (∀ r, t.roworAt buf panel r = o) ∧
      ∀ b' p', (b', p') ≠ (buf, panel) →
        t.panorAt b' p' = s.panorAt b' p' ∧ ∀ r', t.roworAt b' p' r' = s.roworAt b' p' r'

/-- R166: the same draw of LED 0 into stored row `r` of a Panel set UP and of a Panel set DOWN: the field
at position 0 of shift row `r` of the first equals the field at position 7 of shift row `7 − r` of the
second, in all three planes. -/
def Obligations.OrientationMirrorsPanel : Prop :=
  ∀ (s : State) (up down : Panel) (row : Fin 8) (r g b : BitVec 8), s.fs.wf = true →
    ∃ (u d : State) (ur ug ub dr dg db : PlaneWord),
      execAll [.setPanelOrient s.animateIndex up .up, .setLedPixel .animate up row 0 r g b] s
        = .next u ∧
      execAll [.setPanelOrient s.animateIndex down .down, .setLedPixel .animate down row 0 r g b] s
        = .next d ∧
      exec (.getShiftRow .animate up row) u =
        .next { u with replies := u.replies ++ [.row ur ug ub] } ∧
      exec (.getShiftRow .animate down row.rev) d =
        .next { d with replies := d.replies ++ [.row dr dg db] } ∧
      fieldAt s.depth ur 0 = fieldAt s.depth dr 7 ∧ fieldAt s.depth ug 0 = fieldAt s.depth dg 7 ∧
      fieldAt s.depth ub 0 = fieldAt s.depth db 7

/-! ## Frame Store family -/

/-- R183, R184: `REQUEST_SWAP 1` exchanges the role indices and nothing else; `REQUEST_SWAP 0` sets
`swapPending` and nothing else. -/
def Obligations.RequestSwapEffects : Prop :=
  ∀ s : State,
    exec (.requestSwap true) s =
      .next { s with displayIndex := s.animateIndex, animateIndex := s.displayIndex } ∧
    exec (.requestSwap false) s = .next { s with swapPending := true }

/-- R187: after a deferred request at sequencer `(s, r)`, with `k = (N − 1 − s) × 8 + (8 − r)` and whatever
commands but an immediate swap follow: while fewer than `k` refresh steps have run the roles are unchanged
and the request is pending; the `k`-th refresh step performs the swap and ends at (0, 0). The premise is
that the sequencer is in range. -/
def Obligations.DeferredSwapLatency : Prop :=
  ∀ (s : State) (cs : List Instr) (k : Nat), s.subCycle < s.depth.levels →
    (∀ i ∈ cs, i ≠ .requestSwap true) →
    k = (s.depth.levels - 1 - s.subCycle) * 8 + (8 - s.row.val) →
    (1 ≤ k ∧ k ≤ 8 * s.depth.levels) ∧
    (cs.count .refreshStep < k → ∃ t, execAll (.requestSwap false :: cs) s = .next t ∧
      t.displayIndex = s.displayIndex ∧ t.animateIndex = s.animateIndex ∧ t.swapPending = true) ∧
    (cs.count .refreshStep + 1 = k →
      ∃ t, execAll (.requestSwap false :: cs ++ [.refreshStep]) s = .next t ∧
        t.displayIndex = s.animateIndex ∧ t.animateIndex = s.displayIndex ∧ t.swapPending = false ∧
        t.subCycle = 0 ∧ t.row = 0)

/-- R189: two deferred requests are one; two immediate swaps restore the roles; an immediate swap leaves
a pending request pending, so that the boundary step swaps back. -/
def Obligations.SwapCombinations : Prop :=
  ∀ s : State,
    execAll [.requestSwap false, .requestSwap false] s = exec (.requestSwap false) s ∧
    execAll [.requestSwap true, .requestSwap true] s = .next s ∧
    (s.swapPending = true → s.row = 7 → s.subCycle = s.depth.levels - 1 →
      ∃ t, execAll [.requestSwap true, .refreshStep] s = .next t ∧
        t.displayIndex = s.displayIndex ∧ t.animateIndex = s.animateIndex ∧ t.swapPending = false)

/-! ## Refresh Engine -/

/-- R201, R204: the default table is the formula of R204 for both depths, and its entries have as many 1
bits as their number. -/
def Obligations.EvenScheduleMeetsFormula : Prop :=
  ∀ d : Depth, (Schedule.even d).depth = d ∧ (Schedule.even d).wf = true ∧
    ∀ v s, v < d.levels → s < d.levels →
      (Schedule.even d).bit (BitVec.ofNat 4 v) s = evenFormula d v s

/-- R221, R225: a refresh step appends four writes for each of the 120 bits of its serial frame and then
blank, row select, latch up, latch down, unblank, in this order: 485 events. -/
def Obligations.RefreshStepEvents : Prop :=
  ∀ s : State, ∃ t bits, exec .refreshStep s = .next t ∧ bits = s.serialFrame ∧ bits.length = 120 ∧
    t.trace = s.trace ++
      (bits.flatMap fun bit => [.sdata bit, .sclk true, .sclk false, .sdata false]) ++
      [.oeN true, .rowsel (BitVec.ofNat 3 s.row.val), .latch true, .latch false, .oeN s.blankHold] ∧
    t.trace.length = s.trace.length + 485 ∧ t.blankSeq = false ∧
    t.pins = ⟨false, false, false, s.blankHold, BitVec.ofNat 3 s.row.val⟩

/-- R213: the `k`-th bit of a step's serial frame: panel `k div 24`, plane `CHAN_ORDER[(k mod 24) div 8]`,
position `k mod 8` or `7 − k mod 8` by `LED_ORDER`, in the Panel's stored row for the current row, looked
up in the schedule at the current sub-cycle. -/
def Obligations.SerialBitOrder : Prop :=
  ∀ (s : State) (k : Nat), k < 120 → ∃ (panel : Panel) (c : Chan) (pos : Nat) (sr : Fin 8) (v : Level),
    panelChain[k / 24]? = some panel ∧ s.build.chanOrder.toList[k % 24 / 8]? = some c ∧
    (s.build.ledOrder = .asc → pos = k % 8) ∧ (s.build.ledOrder = .desc → pos = 7 - k % 8) ∧
    (s.panorAt s.displayIndex panel = .up → sr = s.row) ∧
    (s.panorAt s.displayIndex panel = .down → sr.val = 7 - s.row.val) ∧
    v.toNat = (s.fsRead s.displayIndex panel sr c).toNat / 2 ^ (pos * s.depth.bits) %
      2 ^ s.depth.bits ∧
    s.serialFrame[k]? = some (s.build.sched.bit v s.subCycle)

/-- R230: a refresh step advances the row first, then the sub-cycle, then wraps to (0, 0). -/
def Obligations.SequencerAdvance : Prop :=
  ∀ s : State, ∃ t, exec .refreshStep s = .next t ∧
    (s.row.val < 7 → t.row.val = s.row.val + 1 ∧ t.subCycle = s.subCycle) ∧
    (s.row = 7 → s.subCycle < s.depth.levels - 1 → t.row = 0 ∧ t.subCycle = s.subCycle + 1) ∧
    (s.row = 7 → s.subCycle = s.depth.levels - 1 → t.row = 0 ∧ t.subCycle = 0)

/-- R186, R231: only the step that starts at (N − 1, 7) with `swapPending` set exchanges the roles, and it
clears the flag; every other refresh step leaves the roles and the flag. -/
def Obligations.BoundarySwap : Prop :=
  ∀ s : State, s.subCycle < s.depth.levels → ∃ t, exec .refreshStep s = .next t ∧
    (s.row = 7 ∧ s.subCycle = s.depth.levels - 1 ∧ s.swapPending = true →
      t.displayIndex = s.animateIndex ∧ t.animateIndex = s.displayIndex ∧ t.swapPending = false) ∧
    (¬ (s.row = 7 ∧ s.subCycle = s.depth.levels - 1 ∧ s.swapPending = true) →
      t.displayIndex = s.displayIndex ∧ t.animateIndex = s.animateIndex ∧
      t.swapPending = s.swapPending)

/-- R63, R210: what a refresh step may write: pins, trace, `blankSeq`, the sequencer, the role indices and
`swapPending`. No plane word, no flag of orientation, no other register. -/
def Obligations.RefreshStepFrame : Prop :=
  ∀ s : State, ∃ t, exec .refreshStep s = .next t ∧
    t = { s with
      pins := t.pins, trace := t.trace, blankSeq := t.blankSeq, subCycle := t.subCycle, row := t.row,
      displayIndex := t.displayIndex, animateIndex := t.animateIndex, swapPending := t.swapPending }

/-- R223: in a step that starts with the bus idle and `OE_N = blankSeq | blankHold`, `SCLK` rises 120
times with the bits of the serial frame on `SDATA`, `LATCH` rises once, and the protocol holds. -/
def Obligations.RefreshStepOnTheBus : Prop :=
  ∀ s : State, s.pins.sclk = false → s.pins.sdata = false → s.pins.latch = false →
    s.pins.oeN = (s.blankSeq || s.blankHold) →
    ∃ t events, exec .refreshStep s = .next t ∧ t.trace = s.trace ++ events ∧
      sampledBits s.pins events = s.serialFrame ∧ (sampledBits s.pins events).length = 120 ∧
      latchRises s.pins events = 1 ∧ protocolOk s.pins events = true ∧
      t.pins.sclk = false ∧ t.pins.sdata = false ∧ t.pins.latch = false

/-- R235: with the output held blanked a refresh step does everything it does otherwise; only its last
write of `OE_N` is 1. -/
def Obligations.StepWhileBlanked : Prop :=
  ∀ s : State, s.blankHold = true → ∃ t u before,
    exec .refreshStep s = .next t ∧ exec .refreshStep { s with blankHold := false } = .next u ∧
    u.trace = before ++ [.oeN false] ∧ u.pins.oeN = false ∧
    t = { u with
      blankHold := true, pins := { u.pins with oeN := true }, trace := before ++ [.oeN true] }

/-- R232: over a full cycle of refresh steps, each serial bit is 1 in exactly as many of the `N` steps
with its row as the level of the field it carries, for every table that meets R201. -/
def Obligations.PulseCountIsLevel : Prop :=
  ∀ (s : State) (r : Fin 8) (k : Nat), s.build.sched.wf = true → s.subCycle = 0 → s.row = 0 →
    k < 120 →
    (∀ n, n < 8 * s.depth.levels → execAll (refreshCommands n) s = .next (refreshed n s)) ∧
    ∃ (panel : Panel) (c : Chan) (pos : Fin 8),
      panelChain[k / 24]? = some panel ∧ s.build.chanOrder.toList[k % 24 / 8]? = some c ∧
      s.build.ledOrder.toList[k % 8]? = some pos ∧
      ((List.range s.depth.levels).filter fun sub =>
        (refreshed (sub * 8 + r.val) s).serialFrame[k]? == some true).length =
      (fieldAt s.depth
        (s.fsRead s.displayIndex panel (shiftRow (s.panorAt s.displayIndex panel) r) c) pos).toNat

/-- R77: from (0, 0), as long as fewer than `8 × N` refresh steps have run and no command disturbs the
display, the DISPLAY buffer's index, plane words and Panel flags are those at the start, so that every
step of the cycle reads one frame. -/
def Obligations.CycleIntegrity : Prop :=
  ∀ (s : State) (cs : List Instr), s.Inv → s.subCycle = 0 → s.row = 0 → undisturbed cs s →
    cs.count .refreshStep < 8 * s.depth.levels →
    ∃ t, execAll cs s = .next t ∧ t.displayIndex = s.displayIndex ∧
      sameWords s t s.displayIndex ∧ ∀ p, t.panorAt s.displayIndex p = s.panorAt s.displayIndex p

/-- R45, R233: whatever the external chain held, after a refresh step from an idle bus the output
register's stage `119 − k` is serial bit `k`, and the pins are the block's. -/
def Obligations.ChainShowsSerialFrame : Prop :=
  ∀ (s : State) (c : Chain), c.pins = s.pins → s.pins.sclk = false → s.pins.latch = false →
    ∃ t events, exec .refreshStep s = .next t ∧ t.trace = s.trace ++ events ∧
      (c.run events).pins = t.pins ∧
      ∀ k, k < 120 → s.serialFrame[k]? = some ((c.run events).outreg.getLsbD (119 - k))

/-! ## Coordinate Adapter -/

/-- R251, R252: `SET_MODE` writes the three mode bits and nothing else, `SET_GFX_PANEL` the panel of flat
mode and nothing else. -/
def Obligations.CanvasConfiguration : Prop :=
  ∀ (s : State) (wide tall wrap : Bool) (panel : Panel),
    exec (.setMode wide tall wrap) s = .next { s with wide := wide, tall := tall, wrap := wrap } ∧
    exec (.setGfxPanel panel) s = .next { s with gfxPanel := panel }

/-- R262: a draw outside the canvas changes no state: `y` always, `x` when `wrap` is 0. -/
def Obligations.DrawOutsideIsDropped : Prop :=
  ∀ (s : State) (x y : BitVec 16) (color : ColorWord) (cw ch : Int),
    cw = (if s.wide then 32 else 8) → ch = (if s.wide ∧ s.tall then 16 else 8) →
    (y.toInt < 0 ∨ ch ≤ y.toInt ∨ (s.wrap = false ∧ (x.toInt < 0 ∨ cw ≤ x.toInt))) →
    exec (.drawPixel x y color) s = .next s

/-- R260, R261, R263 to R266: a draw inside the canvas is `SET_LED_COLOR` with role ANIMATE at the place
the mode gives, `x` reduced modulo the canvas width when `wrap` is 1. -/
def Obligations.DrawInsideWritesTarget : Prop :=
  ∀ (s : State) (x y : BitVec 16) (color : ColorWord) (cx cy : Nat),
    (cx : Int) = (if s.wrap then x.toInt % (if s.wide then 32 else 8) else x.toInt) →
    (cy : Int) = y.toInt →
    cx < (if s.wide then 32 else 8) → cy < (if s.wide ∧ s.tall then 16 else 8) →
    ∃ (panel : Panel) (row idx : Fin 8) (t : State),
      exec (.drawPixel x y color) s = .next t ∧
      exec (.setLedColor .animate panel row idx color) s = .next t ∧
      (s.wide = false → panel = s.gfxPanel ∧ row.val = cy ∧ idx.val = cx) ∧
      (s.wide = true → ¬ (s.tall = true ∧ cy < 8) →
        panel = (if cx < 8 then .left else if cx < 16 then .front else if cx < 24 then .right
          else .back) ∧
        row.val = (if s.tall then cy - 8 else cy) ∧ idx.val = cx % 8) ∧
      (s.wide = true → s.tall = true → cy < 8 → panel = .top ∧
        (cx < 8 → idx.val = 7 - cy ∧ row.val = cx) ∧
        (8 ≤ cx → cx < 16 → idx.val = cx - 8 ∧ row.val = cy) ∧
        (16 ≤ cx → cx < 24 → idx.val = cy ∧ row.val = 7 - (cx - 16)) ∧
        (24 ≤ cx → idx.val = 7 - (cx - 24) ∧ row.val = 7 - cy))

/-- R267: on a wide and tall canvas the points `(x, 7)` and `(x, 8)` are physical neighbours across the
upper edge of the cube, in every band. -/
def Obligations.SeamsClose : Prop :=
  ∀ (s : State) (xs : Fin 8), s.wide = true → s.tall = true →
    s.drawTarget (8 + xs.val) 7 = some ⟨.top, 7, xs⟩ ∧
    s.drawTarget (8 + xs.val) 8 = some ⟨.front, 0, xs⟩ ∧
    s.drawTarget xs.val 7 = some ⟨.top, xs, 0⟩ ∧
    s.drawTarget xs.val 8 = some ⟨.left, 0, xs⟩ ∧
    s.drawTarget (16 + xs.val) 7 = some ⟨.top, xs.rev, 7⟩ ∧
    s.drawTarget (16 + xs.val) 8 = some ⟨.right, 0, xs⟩ ∧
    s.drawTarget (24 + xs.val) 7 = some ⟨.top, 0, xs.rev⟩ ∧
    s.drawTarget (24 + xs.val) 8 = some ⟨.back, 0, xs⟩

/-- R281: at an edge of TOP that is no corner the query answers what `GET_LED` answers for the adjoining
pixel in stored row 0 of the side panel, in the ANIMATE buffer. -/
def Obligations.NeighborAtEdge : Prop :=
  ∀ (s : State) (i : Fin 8) (bg : ColorWord) (v : BitVec 16), 1 ≤ i.val → i.val ≤ 6 →
    v = BitVec.ofNat 16 i.val →
    (∃ t, exec (.getTopNeighbor 0 v bg) s = .next t ∧ exec (.getLed .animate .left 0 i) s = .next t) ∧
    (∃ t, exec (.getTopNeighbor 7 v bg) s = .next t ∧
      exec (.getLed .animate .right 0 i.rev) s = .next t) ∧
    (∃ t, exec (.getTopNeighbor v 0 bg) s = .next t ∧
      exec (.getLed .animate .back 0 i.rev) s = .next t) ∧
    (∃ t, exec (.getTopNeighbor v 7 bg) s = .next t ∧ exec (.getLed .animate .front 0 i) s = .next t)

/-- R282, R283, R285: at a corner of TOP the query answers from the two adjoining LEDs `a` and `b`: the
background if both equal it, the other one verbatim if one equals it, else the average of each channel,
rounded down. -/
def Obligations.NeighborAtCorner : Prop :=
  ∀ (s : State) (bg : ColorWord) (x y : BitVec 16) (p q : Panel) (i j : Fin 8),
    (x, y, p, i, q, j) ∈ ([(0, 0, .left, 0, .back, 7), (7, 0, .right, 7, .back, 0),
      (0, 7, .left, 7, .front, 0), (7, 7, .right, 0, .front, 7)] :
      List (BitVec 16 × BitVec 16 × Panel × Fin 8 × Panel × Fin 8)) →
    ∃ a b g px : Pixel,
      exec (.getLed .animate p 0 i) s = .next { s with replies := s.replies ++ [.pixel a] } ∧
      exec (.getLed .animate q 0 j) s = .next { s with replies := s.replies ++ [.pixel b] } ∧
      exec (.unpack bg) s = .next { s with replies := s.replies ++ [.pixel g] } ∧
      exec (.getTopNeighbor x y bg) s = .next { s with replies := s.replies ++ [.pixel px] } ∧
      (a = g → b = g → px = g) ∧ (a = g → px = b) ∧ (b = g → px = a) ∧
      (a ≠ g → b ≠ g → px.r.toNat = (a.r.toNat + b.r.toNat) / 2 ∧
        px.g.toNat = (a.g.toNat + b.g.toNat) / 2 ∧ px.b.toNat = (a.b.toNat + b.b.toNat) / 2)

/-- R280: whatever the coordinate, on an edge or off it, the query changes nothing but hands back one Pixel
of the build's depth. -/
def Obligations.NeighborAnswersPixel : Prop :=
  ∀ (s : State) (x y : BitVec 16) (bg : ColorWord), ∃ px : Pixel,
    exec (.getTopNeighbor x y bg) s = .next { s with replies := s.replies ++ [.pixel px] } ∧
    px.r.toNat < 2 ^ s.depth.bits ∧ px.g.toNat < 2 ^ s.depth.bits ∧ px.b.toNat < 2 ^ s.depth.bits

/-! ## Animation Scheduler -/

/-- R109: `NOP` changes nothing. -/
def Obligations.NopChangesNothing : Prop :=
  ∀ s : State, exec .nop s = .next s

/-- R301: `SET_BLANK on` writes `blankHold` and drives `OE_N` with `blankSeq | on`, nothing else. -/
def Obligations.SetBlankDrivesOutputEnable : Prop :=
  ∀ (s : State) (on : Bool), exec (.setBlank on) s = .next
    { s with
      blankHold := on, pins := { s.pins with oeN := s.blankSeq || on },
      trace := s.trace ++ [.oeN (s.blankSeq || on)] }

/-- R302: `ANIM_REGISTER` writes `animRegistered` and `animPeriod`, nothing else. -/
def Obligations.AnimRegisterWritesRegisters : Prop :=
  ∀ (s : State) (present : Bool) (period : BitVec 32),
    exec (.animRegister present period) s =
      .next { s with animRegistered := present, animPeriod := period }

/-- R304: `ANIM_ENTER` with a callback registered and none running saves `blankHold`, blanks an unblanked
output with one `OE_N` event, writes no pin when it was blanked, and becomes active; otherwise it does
nothing (R308). -/
def Obligations.AnimEnterProtocol : Prop :=
  ∀ s : State,
    (s.animRegistered = false ∨ s.animActive = true → exec .animEnter s = .next s) ∧
    (s.animRegistered = true → s.animActive = false → s.blankHold = true →
      exec .animEnter s = .next { s with animSavedHold := true, animActive := true }) ∧
    (s.animRegistered = true → s.animActive = false → s.blankHold = false →
      exec .animEnter s = .next
        { s with
          animSavedHold := false, animActive := true, blankHold := true,
          pins := { s.pins with oeN := true }, trace := s.trace ++ [.oeN true] })

/-- R305: `ANIM_EXIT done` of an active invocation requests the deferred swap when `done` is 1, restores
`blankHold`, drives `OE_N` and becomes inactive; with none active it does nothing (R308). -/
def Obligations.AnimExitProtocol : Prop :=
  ∀ (s : State) (done : Bool),
    (s.animActive = false → exec (.animExit done) s = .next s) ∧
    (s.animActive = true → exec (.animExit done) s = .next
      { s with
        swapPending := s.swapPending || done, blankHold := s.animSavedHold, animActive := false,
        pins := { s.pins with oeN := s.blankSeq || s.animSavedHold },
        trace := s.trace ++ [.oeN (s.blankSeq || s.animSavedHold)] })

/-- R306: from an `ANIM_ENTER` that takes effect on, whatever commands and refresh steps follow short of
`SET_BLANK 0` and `ANIM_EXIT`, the output stays blanked: every `OE_N` event is 1. The `ANIM_EXIT` then
restores `blankHold`. -/
def Obligations.InvocationStaysDark : Prop :=
  ∀ (s : State) (body : List Instr) (done : Bool), s.Inv → s.animRegistered = true →
    s.animActive = false → (∀ i ∈ body, i ≠ .setBlank false ∧ ∀ f, i ≠ .animExit f) →
    ∃ t u events, execAll (.animEnter :: body) s = .next t ∧ t.trace = s.trace ++ events ∧
      (∀ v, PinEvent.oeN v ∈ events → v = true) ∧ t.blankHold = true ∧ t.pins.oeN = true ∧
      execAll (animTickCommands done body) s = .next u ∧ u.blankHold = s.blankHold ∧
      u.animActive = false

/-! ## Whole-machine rules -/

/-- R335: what the animation context never touches: the sequencer, `blankSeq` and every pin but `OE_N`;
and R354: no command changes the build. -/
def Obligations.HostLeavesScanAlone : Prop :=
  ∀ (s t : State) (i : Instr), exec i s = .next t →
    t.build = s.build ∧
    (contextOf i = .animation →
      t.subCycle = s.subCycle ∧ t.row = s.row ∧ t.blankSeq = s.blankSeq ∧
      t.pins.scanPins = s.pins.scanPins)

/-- R69, R180: a command that does not address the DISPLAY buffer leaves its plane words and its flags of
orientation as they are. -/
def Obligations.DisplayChangesOnlyWhenAddressed : Prop :=
  ∀ (s t : State) (i : Instr), s.animateIndex ≠ s.displayIndex → exec i s = .next t →
    disturbsDisplay s i = false →
    sameWords s t s.displayIndex ∧
    (∀ p, t.panorAt s.displayIndex p = s.panorAt s.displayIndex p) ∧
    ∀ p r, t.roworAt s.displayIndex p r = s.roworAt s.displayIndex p r

/-- R184, R186: the role indices change only by `REQUEST_SWAP 1` and by a `REFRESH_STEP` with a pending
request; `swapPending` is cleared only by a `REFRESH_STEP`. -/
def Obligations.RolesChangeOnlyBySwap : Prop :=
  ∀ (s t : State) (i : Instr), exec i s = .next t →
    ((t.displayIndex ≠ s.displayIndex ∨ t.animateIndex ≠ s.animateIndex) →
      i = .requestSwap true ∨ (i = .refreshStep ∧ s.swapPending = true)) ∧
    (s.swapPending = true → t.swapPending = false → i = .refreshStep)

/-- R35, column W: every register of the table changes only by the commands named there as its writers; a
swap is `REQUEST_SWAP 1` or the one a `REFRESH_STEP` performs. `swapPending` is set only by `REQUEST_SWAP 0`
and `ANIM_EXIT 1`, and cleared only by `REFRESH_STEP`. -/
def Obligations.RegistersHaveTheirWriters : Prop :=
  ∀ (s t : State) (i : Instr), exec i s = .next t →
    ((t.subCycle, t.row, t.blankSeq) ≠ (s.subCycle, s.row, s.blankSeq) → i = .refreshStep) ∧
    ((t.displayIndex, t.animateIndex) ≠ (s.displayIndex, s.animateIndex) →
      i = .requestSwap true ∨ i = .refreshStep) ∧
    (s.swapPending = false → t.swapPending = true → i = .requestSwap false ∨ i = .animExit true) ∧
    (s.swapPending = true → t.swapPending = false → i = .refreshStep) ∧
    (t.blankHold ≠ s.blankHold → (∃ v, i = .setBlank v) ∨ i = .animEnter ∨ ∃ v, i = .animExit v) ∧
    ((t.wide, t.tall, t.wrap) ≠ (s.wide, s.tall, s.wrap) → ∃ a b c, i = .setMode a b c) ∧
    (t.gfxPanel ≠ s.gfxPanel → ∃ p, i = .setGfxPanel p) ∧
    ((t.animRegistered, t.animPeriod) ≠ (s.animRegistered, s.animPeriod) →
      ∃ f n, i = .animRegister f n) ∧
    (t.animActive ≠ s.animActive → i = .animEnter ∨ ∃ v, i = .animExit v) ∧
    (t.animSavedHold ≠ s.animSavedHold → i = .animEnter) ∧
    (t.panor ≠ s.panor → ∃ b p o, i = .setPanelOrient b p o) ∧
    (t.rowor ≠ s.rowor →
      (∃ b p o, i = .setPanelOrient b p o) ∨ ∃ b p r o, i = .setRowOrient b p r o)

/-- R65: a command that only reads or computes changes nothing but hands back exactly one value. -/
def Obligations.ReadersChangeNothing : Prop :=
  ∀ (s : State) (i : Instr),
    ((∃ b p r, i = .isOrientedUp b p r) ∨ (∃ q p r x, i = .getLed q p r x) ∨
      (∃ q p r, i = .getRow q p r) ∨ (∃ q p r, i = .getShiftRow q p r) ∨
      (∃ x y c, i = .getTopNeighbor x y c) ∨ (∃ r g b, i = .pack r g b) ∨
      (∃ c, i = .unpack c) ∨ (∃ r g b, i = .pixelNew r g b) ∨
      ∃ r g b r' g' b', i = .pixelEq r g b r' g' b') →
    ∃ v, exec i s = .next { s with replies := s.replies ++ [v] }

/-- R65: issuing one of the configuring or drawing commands, or a deferred request, twice in a row leaves
the state that issuing it once leaves; `SET_BLANK` repeats its event in the trace (R41) and changes
nothing else. -/
def Obligations.RepeatingChangesNothing : Prop :=
  ∀ (s t : State) (i : Instr), s.Inv → exec i s = .next t →
    ((∃ b p o, i = .setPanelOrient b p o) ∨ (∃ b p r o, i = .setRowOrient b p r o) ∨
      (∃ a b c, i = .setMode a b c) ∨ (∃ p, i = .setGfxPanel p) ∨
      (∃ q p r x a b c, i = .setLedPixel q p r x a b c) ∨ (∃ q p r x c, i = .setLedColor q p r x c) ∨
      (∃ x y c, i = .drawPixel x y c) ∨ (∃ f n, i = .animRegister f n) ∨ i = .requestSwap false →
      exec i t = .next t) ∧
    (∀ on, i = .setBlank on →
      exec i t = .next { t with trace := t.trace ++ [.oeN t.pins.oeN] })
end

