-- ==== Sys2Proof/Laws/Memory.lean ====
section
/-! SUPPORT. What the list of plane words does: read after write, the canonical form and the width of
its words are kept. -/

namespace Sys2Proof.Machine

open Sys2Proof

@[simp] theorem Memory.read_nil (a : Nat) : Memory.read [] a = 0 := rfl

/-- A number below every listed one is unlisted. -/
theorem Memory.read_below {m : Memory} {lo a : Nat} (h : Memory.wfFrom lo m = true) (ha : a < lo) :
    m.read a = 0 := by
  induction m generalizing lo with
  | nil => rfl
  | cons cell rest ih =>
    obtain ⟨k, v⟩ := cell
    simp only [Memory.wfFrom, Bool.and_eq_true, decide_eq_true_eq] at h
    have hk : a ≠ k := by omega
    simp only [Memory.read, hk, if_false]
    exact ih h.2 (by omega)

/-- Reading a number just written gives the word written. -/
theorem Memory.read_write_same {m : Memory} {lo : Nat} (h : Memory.wfFrom lo m = true) (a : Nat)
    (v : PlaneWord) : (m.write a v).read a = v := by
  induction m generalizing lo with
  | nil =>
    by_cases hv : v = Memory.unlisted
    · simp [Memory.write, hv, Memory.unlisted]
    · simp [Memory.write, hv, Memory.read]
  | cons cell rest ih =>
    obtain ⟨k, u⟩ := cell
    have h' := h
    simp only [Memory.wfFrom, Bool.and_eq_true, decide_eq_true_eq] at h
    unfold Memory.write
    split
    · split
      · rename_i hv
        subst hv
        have hk : a ≠ k := by omega
        simp only [Memory.read, hk, if_false]
        exact Memory.read_below h.2 (by omega)
      · simp [Memory.read]
    · split
      · rename_i hk
        subst hk
        split
        · rename_i hv
          subst hv
          exact Memory.read_below h.2 (by omega)
        · simp [Memory.read]
      · rename_i hk
        simp only [Memory.read, hk, if_false]
        exact ih h.2

/-- A write leaves every other number alone. -/
theorem Memory.read_write_other (m : Memory) {a b : Nat} (hab : b ≠ a) (v : PlaneWord) :
    (m.write a v).read b = m.read b := by
  induction m with
  | nil =>
    unfold Memory.write
    split <;> simp [Memory.read, hab, Memory.unlisted]
  | cons cell rest ih =>
    obtain ⟨k, u⟩ := cell
    unfold Memory.write
    split
    · split
      · rfl
      · simp [Memory.read, hab]
    · split
      · rename_i hk
        subst hk
        split <;> simp [Memory.read, hab]
      · simp only [Memory.read, ih]

/-- The canonical form from a number on holds from any lower number on. -/
theorem Memory.wfFrom_mono {m : Memory} {lo lo' : Nat} (hle : lo ≤ lo')
    (h : Memory.wfFrom lo' m = true) : Memory.wfFrom lo m = true := by
  cases m with
  | nil => rfl
  | cons cell rest =>
    obtain ⟨k, v⟩ := cell
    simp only [Memory.wfFrom, Bool.and_eq_true, decide_eq_true_eq] at h ⊢
    exact ⟨⟨⟨by omega, h.1.1.2⟩, h.1.2⟩, h.2⟩

/-- A write keeps the canonical form. -/
theorem Memory.wfFrom_write {m : Memory} {lo : Nat} (h : Memory.wfFrom lo m = true) {a : Nat}
    (hlo : lo ≤ a) (ha : a < 240) (v : PlaneWord) : Memory.wfFrom lo (m.write a v) = true := by
  induction m generalizing lo with
  | nil =>
    unfold Memory.write
    split <;> simp_all [Memory.wfFrom]
  | cons cell rest ih =>
    obtain ⟨k, u⟩ := cell
    have h' := h
    simp only [Memory.wfFrom, Bool.and_eq_true, decide_eq_true_eq] at h
    unfold Memory.write
    split
    · split
      · exact h'
      · simp only [Memory.wfFrom, Bool.and_eq_true, decide_eq_true_eq]
        exact ⟨⟨⟨hlo, ha⟩, by assumption⟩, ⟨⟨by omega, h.1.1.2⟩, h.1.2⟩, h.2⟩
    · split
      · rename_i hk
        subst hk
        split
        · exact Memory.wfFrom_mono (by omega) h.2
        · simp only [Memory.wfFrom, Bool.and_eq_true, decide_eq_true_eq]
          exact ⟨⟨h.1.1, by assumption⟩, h.2⟩
      · rename_i hk hk'
        simp only [Memory.wfFrom, Bool.and_eq_true, decide_eq_true_eq]
        exact ⟨h.1, ih h.2 (by omega)⟩

/-- A write keeps the canonical form of the frame store. -/
theorem Memory.wf_write {m : Memory} (h : m.wf = true) {a : Nat} (ha : a < 240) (v : PlaneWord) :
    (m.write a v).wf = true :=
  Memory.wfFrom_write h (Nat.zero_le _) ha v

/-- Two lists in canonical form that read alike are the same list. -/
theorem Memory.eq_of_read {m m' : Memory} {lo : Nat} (h : Memory.wfFrom lo m = true)
    (h' : Memory.wfFrom lo m' = true) (hr : ∀ a, m.read a = m'.read a) : m = m' := by
  have low : ∀ {k v rest}, Memory.wfFrom k rest = true → k < 240 → v ≠ Memory.unlisted →
      Memory.wfFrom (k + 1) rest = true → Memory.wfFrom k ((k, v) :: rest) = true := by
    intro k v rest _ h1 h2 h3
    simp [Memory.wfFrom, h1, h2, h3]
  induction m generalizing m' lo with
  | nil =>
    rcases m' with _ | ⟨⟨k, v⟩, rest⟩
    · rfl
    · simp only [Memory.wfFrom, Bool.and_eq_true, decide_eq_true_eq] at h'
      have := hr k
      simp only [Memory.read, if_true] at this
      exact absurd this.symm h'.1.2
  | cons cell rest ih =>
    obtain ⟨k, v⟩ := cell
    simp only [Memory.wfFrom, Bool.and_eq_true, decide_eq_true_eq] at h
    have hm := low (Memory.wfFrom_mono (Nat.le_succ k) h.2) h.1.1.2 h.1.2 h.2
    rcases m' with _ | ⟨⟨k', v'⟩, rest'⟩
    · have := hr k
      simp only [Memory.read, if_true] at this
      exact absurd this h.1.2
    · simp only [Memory.wfFrom, Bool.and_eq_true, decide_eq_true_eq] at h'
      have hm' := low (Memory.wfFrom_mono (Nat.le_succ k') h'.2) h'.1.1.2 h'.1.2 h'.2
      have hk : k = k' := by
        rcases Nat.lt_trichotomy k k' with hlt | heq | hgt
        · have := hr k
          rw [Memory.read_below hm' hlt] at this
          simp only [Memory.read, if_true] at this
          exact absurd this h.1.2
        · exact heq
        · have := hr k'
          rw [Memory.read_below hm hgt] at this
          simp only [Memory.read, if_true] at this
          exact absurd this.symm h'.1.2
      subst hk
      have hv := hr k
      simp only [Memory.read, if_true] at hv
      subst hv
      rw [ih h.2 h'.2 fun a => ?_]
      have := hr a
      simp only [Memory.read] at this
      split at this
      · subst_vars
        rw [Memory.read_below h.2 (by omega), Memory.read_below h'.2 (by omega)]
      · exact this

/-- An entry after a write is the one written or was there before. -/
theorem Memory.mem_write {m : Memory} {a : Nat} {v : PlaneWord} {cell : Nat × PlaneWord}
    (h : cell ∈ m.write a v) : cell = (a, v) ∨ cell ∈ m := by
  induction m with
  | nil =>
    unfold Memory.write at h
    split at h <;> simp_all
  | cons head rest ih =>
    obtain ⟨k, u⟩ := head
    unfold Memory.write at h
    split at h
    · split at h <;> simp_all
    · split at h
      · split at h
        · exact .inr (List.mem_cons_of_mem _ h)
        · rcases List.mem_cons.1 h with h | h
          · exact .inl h
          · exact .inr (List.mem_cons_of_mem _ h)
      · rcases List.mem_cons.1 h with h | h
        · exact .inr (h ▸ List.mem_cons_self)
        · exact (ih h).imp id (List.mem_cons_of_mem _)

/-- A write of a word of `PW` bits keeps every word at `PW` bits. -/
theorem Memory.fits_write {d : Depth} {m : Memory} (h : m.fits d = true) (a : Nat) {v : PlaneWord}
    (hv : v &&& d.planeMask = v) : (m.write a v).fits d = true := by
  simp only [Memory.fits, List.all_eq_true, beq_iff_eq] at h ⊢
  intro cell hcell
  rcases Memory.mem_write hcell with rfl | hm
  · exact hv
  · exact h cell hm

/-- A word read has `PW` bits when every listed word has. -/
theorem Memory.read_fits {d : Depth} {m : Memory} (h : m.fits d = true) (a : Nat) :
    m.read a &&& d.planeMask = m.read a := by
  induction m with
  | nil => simp
  | cons cell rest ih =>
    obtain ⟨k, v⟩ := cell
    simp only [Memory.fits, List.all_cons, Bool.and_eq_true, beq_iff_eq] at h ih
    unfold Memory.read
    split
    · exact h.1
    · exact ih h.2

/-- Every place of the frame store has a number below 240 (R72). -/
theorem wordNumber_lt (b : Buf) (p : Panel) (r : Fin 8) (c : Chan) : wordNumber b p r c < 240 := by
  have := r.isLt
  cases b <;> cases p <;> cases c <;> simp [wordNumber, Buf.idx, Panel.idx, Chan.idx] <;> omega

/-- Two places with one number are the same place (R72). -/
theorem wordNumber_inj {b b' : Buf} {p p' : Panel} {r r' : Fin 8} {c c' : Chan}
    (h : wordNumber b p r c = wordNumber b' p' r' c') : b = b' ∧ p = p' ∧ r = r' ∧ c = c' := by
  have := r.isLt
  have := r'.isLt
  have hb : b.idx.val < 2 := b.idx.isLt
  have hb' : b'.idx.val < 2 := b'.idx.isLt
  have hp : p.idx.val < 5 := p.idx.isLt
  have hp' : p'.idx.val < 5 := p'.idx.isLt
  have hc : c.idx.val < 3 := c.idx.isLt
  have hc' : c'.idx.val < 3 := c'.idx.isLt
  simp only [wordNumber] at h
  have e1 : b.idx.val = b'.idx.val := by omega
  have e2 : p.idx.val = p'.idx.val := by omega
  have e3 : r = r' := by omega
  have e4 : c.idx.val = c'.idx.val := by omega
  refine ⟨?_, ?_, e3, ?_⟩
  · cases b <;> cases b' <;> simp_all [Buf.idx]
  · cases p <;> cases p' <;> simp_all [Panel.idx]
  · cases c <;> cases c' <;> simp_all [Chan.idx]

end Sys2Proof.Machine
end

