-- ==== Sys2Proof/Laws/Operands.lean ====
section
/-! SUPPORT. What the operand functions do, bit by bit: channel masks, the fields of a plane word, the
orientation maps. -/

namespace Sys2Proof.Machine

open Sys2Proof

@[simp] theorem Depth.bits_le (d : Depth) : d.bits ≤ 4 := by cases d <;> decide

theorem Depth.bits_pos (d : Depth) : 0 < d.bits := by cases d <;> decide

theorem Depth.getLsbD_mask (d : Depth) (i : Nat) : d.mask.getLsbD i = decide (i < d.bits) := by
  rcases Nat.lt_or_ge i 4 with h | h
  · cases d <;> interval_cases i <;> decide
  · have := Depth.bits_le d
    rw [BitVec.getLsbD_of_ge _ _ h]
    simp
    omega

theorem Depth.getLsbD_planeMask (d : Depth) (i : Nat) :
    d.planeMask.getLsbD i = decide (i < 8 * d.bits) := by
  rcases Nat.lt_or_ge i 32 with h | h
  · cases d <;> interval_cases i <;> decide
  · have := Depth.bits_le d
    rw [BitVec.getLsbD_of_ge _ _ h]
    simp
    omega

/-- A quantized channel has no bit above `D`. -/
@[simp] theorem quantize_masked (d : Depth) (v : BitVec 8) : quantize d v &&& d.mask = quantize d v := by
  rw [quantize, BitVec.and_assoc, BitVec.and_self]

@[simp] theorem fieldAt_masked (d : Depth) (w : PlaneWord) (p : Fin 8) :
    fieldAt d w p &&& d.mask = fieldAt d w p := by
  rw [fieldAt, BitVec.and_assoc, BitVec.and_self]

@[simp] theorem colorSlice_masked (d : Depth) (c : ColorWord) (k : Nat) :
    colorSlice d c k &&& d.mask = colorSlice d c k := by
  rw [colorSlice, BitVec.and_assoc, BitVec.and_self]

/-- The bits of a field (R25). -/
theorem getLsbD_fieldAt (d : Depth) (w : PlaneWord) (p : Fin 8) (i : Nat) :
    (fieldAt d w p).getLsbD i = (decide (i < d.bits) && w.getLsbD (p.val * d.bits + i)) := by
  have := Depth.bits_le d
  rw [fieldAt, BitVec.getLsbD_and, Depth.getLsbD_mask, BitVec.getLsbD_setWidth,
    BitVec.getLsbD_ushiftRight]
  by_cases h : i < d.bits
  · simp [h, show i < 4 by omega]
  · simp [h]

/-- A level that has only its `D` bits has no bit from `D` on. -/
theorem level_getLsbD_of_ge {d : Depth} {v : Level} (hv : v &&& d.mask = v) {i : Nat}
    (h : d.bits ≤ i) : v.getLsbD i = false := by
  rw [← hv, BitVec.getLsbD_and, Depth.getLsbD_mask]
  simp
  omega

/-- The bits of a plane word after a field was put in: the level's inside the field, the word's own
elsewhere (R152). -/
theorem getLsbD_withField {d : Depth} (w : PlaneWord) (p : Fin 8) {v : Level}
    (hv : v &&& d.mask = v) (j : Nat) :
    (withField d w p v).getLsbD j =
      if p.val * d.bits ≤ j ∧ j < p.val * d.bits + d.bits then v.getLsbD (j - p.val * d.bits)
      else w.getLsbD j := by
  have hd := Depth.bits_le d
  have hp := p.isLt
  have hpd : p.val * d.bits ≤ 7 * 4 := Nat.mul_le_mul (by omega) hd
  rw [withField, BitVec.getLsbD_or, BitVec.getLsbD_and, BitVec.getLsbD_not, BitVec.getLsbD_shiftLeft,
    BitVec.getLsbD_shiftLeft, BitVec.getLsbD_setWidth, BitVec.getLsbD_setWidth, Depth.getLsbD_mask]
  by_cases hj : j < 32
  · by_cases h1 : p.val * d.bits ≤ j
    · by_cases h2 : j < p.val * d.bits + d.bits
      · have h3 : j - p.val * d.bits < d.bits := by omega
        have h4 : ¬ j < p.val * d.bits := by omega
        have h5 : j - p.val * d.bits < 32 := by omega
        simp [hj, h1, h2, h3, h4, h5]
      · have h3 : d.bits ≤ j - p.val * d.bits := by omega
        have h4 : ¬ j < p.val * d.bits := by omega
        have h6 : ¬ (j - p.val * d.bits < d.bits) := by omega
        simp [hj, h1, h2, h4, h6, level_getLsbD_of_ge hv h3]
    · have h4 : j < p.val * d.bits := by omega
      simp [hj, h1, h4]
  · have h2 : ¬ (j < p.val * d.bits + d.bits) := by omega
    have hw : w.getLsbD j = false := BitVec.getLsbD_of_ge _ _ (by omega)
    simp [hj, h2, hw]

/-- The field written reads back as the level written. -/
theorem fieldAt_withField_same {d : Depth} (w : PlaneWord) (p : Fin 8) {v : Level}
    (hv : v &&& d.mask = v) : fieldAt d (withField d w p v) p = v := by
  apply BitVec.eq_of_getLsbD_eq
  intro i _
  rw [getLsbD_fieldAt, getLsbD_withField w p hv]
  by_cases h : i < d.bits
  · simp [h]
  · simp [h, level_getLsbD_of_ge hv (Nat.not_lt.1 h)]

/-- Writing a field leaves the other seven fields alone. -/
theorem fieldAt_withField_other {d : Depth} (w : PlaneWord) {p q : Fin 8} (hpq : q ≠ p) {v : Level}
    (hv : v &&& d.mask = v) : fieldAt d (withField d w p v) q = fieldAt d w q := by
  apply BitVec.eq_of_getLsbD_eq
  intro i _
  rw [getLsbD_fieldAt, getLsbD_fieldAt, getLsbD_withField w p hv]
  by_cases h : i < d.bits
  · have hne : q.val ≠ p.val := fun e => hpq (Fin.ext e)
    rw [if_neg]
    rintro ⟨h1, h2⟩
    rcases Nat.lt_or_gt_of_ne hne with hlt | hgt
    · have : (q.val + 1) * d.bits ≤ p.val * d.bits := Nat.mul_le_mul_right _ hlt
      rw [Nat.add_mul, Nat.one_mul] at this
      omega
    · have : (p.val + 1) * d.bits ≤ q.val * d.bits := Nat.mul_le_mul_right _ hgt
      rw [Nat.add_mul, Nat.one_mul] at this
      omega
  · simp [h]

/-- Cutting a word to its `PW` bits changes no field. -/
@[simp] theorem fieldAt_planeMask (d : Depth) (w : PlaneWord) (p : Fin 8) :
    fieldAt d (w &&& d.planeMask) p = fieldAt d w p := by
  apply BitVec.eq_of_getLsbD_eq
  intro i _
  rw [getLsbD_fieldAt, getLsbD_fieldAt, BitVec.getLsbD_and, Depth.getLsbD_planeMask]
  by_cases h : i < d.bits
  · have h8 : (p.val + 1) * d.bits ≤ 8 * d.bits := Nat.mul_le_mul_right _ p.isLt
    rw [Nat.add_mul, Nat.one_mul] at h8
    simp [h, show p.val * d.bits + i < 8 * d.bits by omega]
  · simp [h]

/-! ## Values as numbers -/

theorem Depth.levels_pos (d : Depth) : 0 < d.levels := by cases d <;> decide

/-- Masking a level is taking it modulo `2^D` (R93). -/
theorem toNat_and_mask (d : Depth) (v : Level) : (v &&& d.mask).toNat = v.toNat % 2 ^ d.bits := by
  revert v
  cases d <;> decide

theorem toNat_quantize (d : Depth) (v : BitVec 8) :
    (quantize d v).toNat = v.toNat % 2 ^ d.bits := by
  rw [quantize, toNat_and_mask]
  cases d <;> simp [Depth.bits]

theorem toNat_colorSlice (d : Depth) (c : ColorWord) (k : Nat) :
    (colorSlice d c k).toNat = c.toNat / 2 ^ k % 2 ^ d.bits := by
  rw [colorSlice, toNat_and_mask]
  cases d <;> simp [Depth.bits, Nat.shiftRight_eq_div_pow]

theorem toNat_fieldAt (d : Depth) (w : PlaneWord) (p : Fin 8) :
    (fieldAt d w p).toNat = w.toNat / 2 ^ (p.val * d.bits) % 2 ^ d.bits := by
  rw [fieldAt, toNat_and_mask]
  cases d <;> simp [Depth.bits, Nat.shiftRight_eq_div_pow]

/-- The average of two levels is formed without loss (R282). -/
theorem toNat_averageLevel (a b : Level) : (averageLevel a b).toNat = (a.toNat + b.toNat) / 2 := by
  revert a b
  decide

/-! ## Orientation -/

@[simp] theorem ledPos_ledPos (o : Orient) (i : Fin 8) : ledPos o (ledPos o i) = i := by
  cases o <;> simp [ledPos]

@[simp] theorem shiftRow_shiftRow (o : Orient) (i : Fin 8) : shiftRow o (shiftRow o i) = i := by
  cases o <;> simp [shiftRow]

/-- Two LEDs of a Row have two positions (R151). -/
theorem ledPos_inj (o : Orient) {i j : Fin 8} : ledPos o i = ledPos o j ↔ i = j :=
  ⟨fun h => by rw [← ledPos_ledPos o i, h, ledPos_ledPos], fun h => h ▸ rfl⟩

@[simp] theorem Buf.other_other (b : Buf) : b.other.other = b := by cases b <;> rfl

theorem Buf.other_ne (b : Buf) : b.other ≠ b := by cases b <;> decide

end Sys2Proof.Machine
end

