-- ==== Sys2Proof/Laws/State.lean ====
section
/-! SUPPORT. One lemma per field for each update of the state, true by rfl, so that no proof unfolds a
record update. -/

namespace Sys2Proof.Machine

open Sys2Proof

variable (s : State)

/-! ### `fsWrite` -/

@[simp] theorem State.fsWrite_build (b : Buf) (p : Panel) (r : Fin 8) (c : Chan) (v : PlaneWord) :
    (s.fsWrite b p r c v).build = s.build := rfl
@[simp] theorem State.fsWrite_fs (b : Buf) (p : Panel) (r : Fin 8) (c : Chan) (v : PlaneWord) :
    (s.fsWrite b p r c v).fs = s.fs.write (wordNumber b p r c) (v &&& s.depth.planeMask) := rfl
@[simp] theorem State.fsWrite_panor (b : Buf) (p : Panel) (r : Fin 8) (c : Chan) (v : PlaneWord) :
    (s.fsWrite b p r c v).panor = s.panor := rfl
@[simp] theorem State.fsWrite_rowor (b : Buf) (p : Panel) (r : Fin 8) (c : Chan) (v : PlaneWord) :
    (s.fsWrite b p r c v).rowor = s.rowor := rfl
@[simp] theorem State.fsWrite_subCycle (b : Buf) (p : Panel) (r : Fin 8) (c : Chan) (v : PlaneWord) :
    (s.fsWrite b p r c v).subCycle = s.subCycle := rfl
@[simp] theorem State.fsWrite_row (b : Buf) (p : Panel) (r : Fin 8) (c : Chan) (v : PlaneWord) :
    (s.fsWrite b p r c v).row = s.row := rfl
@[simp] theorem State.fsWrite_displayIndex (b : Buf) (p : Panel) (r : Fin 8) (c : Chan) (v : PlaneWord) :
    (s.fsWrite b p r c v).displayIndex = s.displayIndex := rfl
@[simp] theorem State.fsWrite_animateIndex (b : Buf) (p : Panel) (r : Fin 8) (c : Chan) (v : PlaneWord) :
    (s.fsWrite b p r c v).animateIndex = s.animateIndex := rfl
@[simp] theorem State.fsWrite_swapPending (b : Buf) (p : Panel) (r : Fin 8) (c : Chan) (v : PlaneWord) :
    (s.fsWrite b p r c v).swapPending = s.swapPending := rfl
@[simp] theorem State.fsWrite_blankSeq (b : Buf) (p : Panel) (r : Fin 8) (c : Chan) (v : PlaneWord) :
    (s.fsWrite b p r c v).blankSeq = s.blankSeq := rfl
@[simp] theorem State.fsWrite_blankHold (b : Buf) (p : Panel) (r : Fin 8) (c : Chan) (v : PlaneWord) :
    (s.fsWrite b p r c v).blankHold = s.blankHold := rfl
@[simp] theorem State.fsWrite_wide (b : Buf) (p : Panel) (r : Fin 8) (c : Chan) (v : PlaneWord) :
    (s.fsWrite b p r c v).wide = s.wide := rfl
@[simp] theorem State.fsWrite_tall (b : Buf) (p : Panel) (r : Fin 8) (c : Chan) (v : PlaneWord) :
    (s.fsWrite b p r c v).tall = s.tall := rfl
@[simp] theorem State.fsWrite_wrap (b : Buf) (p : Panel) (r : Fin 8) (c : Chan) (v : PlaneWord) :
    (s.fsWrite b p r c v).wrap = s.wrap := rfl
@[simp] theorem State.fsWrite_gfxPanel (b : Buf) (p : Panel) (r : Fin 8) (c : Chan) (v : PlaneWord) :
    (s.fsWrite b p r c v).gfxPanel = s.gfxPanel := rfl
@[simp] theorem State.fsWrite_animRegistered (b : Buf) (p : Panel) (r : Fin 8) (c : Chan) (v : PlaneWord) :
    (s.fsWrite b p r c v).animRegistered = s.animRegistered := rfl
@[simp] theorem State.fsWrite_animPeriod (b : Buf) (p : Panel) (r : Fin 8) (c : Chan) (v : PlaneWord) :
    (s.fsWrite b p r c v).animPeriod = s.animPeriod := rfl
@[simp] theorem State.fsWrite_animActive (b : Buf) (p : Panel) (r : Fin 8) (c : Chan) (v : PlaneWord) :
    (s.fsWrite b p r c v).animActive = s.animActive := rfl
@[simp] theorem State.fsWrite_animSavedHold (b : Buf) (p : Panel) (r : Fin 8) (c : Chan) (v : PlaneWord) :
    (s.fsWrite b p r c v).animSavedHold = s.animSavedHold := rfl
@[simp] theorem State.fsWrite_pins (b : Buf) (p : Panel) (r : Fin 8) (c : Chan) (v : PlaneWord) :
    (s.fsWrite b p r c v).pins = s.pins := rfl
@[simp] theorem State.fsWrite_trace (b : Buf) (p : Panel) (r : Fin 8) (c : Chan) (v : PlaneWord) :
    (s.fsWrite b p r c v).trace = s.trace := rfl
@[simp] theorem State.fsWrite_replies (b : Buf) (p : Panel) (r : Fin 8) (c : Chan) (v : PlaneWord) :
    (s.fsWrite b p r c v).replies = s.replies := rfl
@[simp] theorem State.fsWrite_commands (b : Buf) (p : Panel) (r : Fin 8) (c : Chan) (v : PlaneWord) :
    (s.fsWrite b p r c v).commands = s.commands := rfl

/-! ### `setPanor` -/

@[simp] theorem State.setPanor_build (b : Buf) (p : Panel) (o : Orient) :
    (s.setPanor b p o).build = s.build := rfl
@[simp] theorem State.setPanor_fs (b : Buf) (p : Panel) (o : Orient) :
    (s.setPanor b p o).fs = s.fs := rfl
@[simp] theorem State.setPanor_rowor (b : Buf) (p : Panel) (o : Orient) :
    (s.setPanor b p o).rowor = s.rowor := rfl
@[simp] theorem State.setPanor_subCycle (b : Buf) (p : Panel) (o : Orient) :
    (s.setPanor b p o).subCycle = s.subCycle := rfl
@[simp] theorem State.setPanor_row (b : Buf) (p : Panel) (o : Orient) :
    (s.setPanor b p o).row = s.row := rfl
@[simp] theorem State.setPanor_displayIndex (b : Buf) (p : Panel) (o : Orient) :
    (s.setPanor b p o).displayIndex = s.displayIndex := rfl
@[simp] theorem State.setPanor_animateIndex (b : Buf) (p : Panel) (o : Orient) :
    (s.setPanor b p o).animateIndex = s.animateIndex := rfl
@[simp] theorem State.setPanor_swapPending (b : Buf) (p : Panel) (o : Orient) :
    (s.setPanor b p o).swapPending = s.swapPending := rfl
@[simp] theorem State.setPanor_blankSeq (b : Buf) (p : Panel) (o : Orient) :
    (s.setPanor b p o).blankSeq = s.blankSeq := rfl
@[simp] theorem State.setPanor_blankHold (b : Buf) (p : Panel) (o : Orient) :
    (s.setPanor b p o).blankHold = s.blankHold := rfl
@[simp] theorem State.setPanor_wide (b : Buf) (p : Panel) (o : Orient) :
    (s.setPanor b p o).wide = s.wide := rfl
@[simp] theorem State.setPanor_tall (b : Buf) (p : Panel) (o : Orient) :
    (s.setPanor b p o).tall = s.tall := rfl
@[simp] theorem State.setPanor_wrap (b : Buf) (p : Panel) (o : Orient) :
    (s.setPanor b p o).wrap = s.wrap := rfl
@[simp] theorem State.setPanor_gfxPanel (b : Buf) (p : Panel) (o : Orient) :
    (s.setPanor b p o).gfxPanel = s.gfxPanel := rfl
@[simp] theorem State.setPanor_animRegistered (b : Buf) (p : Panel) (o : Orient) :
    (s.setPanor b p o).animRegistered = s.animRegistered := rfl
@[simp] theorem State.setPanor_animPeriod (b : Buf) (p : Panel) (o : Orient) :
    (s.setPanor b p o).animPeriod = s.animPeriod := rfl
@[simp] theorem State.setPanor_animActive (b : Buf) (p : Panel) (o : Orient) :
    (s.setPanor b p o).animActive = s.animActive := rfl
@[simp] theorem State.setPanor_animSavedHold (b : Buf) (p : Panel) (o : Orient) :
    (s.setPanor b p o).animSavedHold = s.animSavedHold := rfl
@[simp] theorem State.setPanor_pins (b : Buf) (p : Panel) (o : Orient) :
    (s.setPanor b p o).pins = s.pins := rfl
@[simp] theorem State.setPanor_trace (b : Buf) (p : Panel) (o : Orient) :
    (s.setPanor b p o).trace = s.trace := rfl
@[simp] theorem State.setPanor_replies (b : Buf) (p : Panel) (o : Orient) :
    (s.setPanor b p o).replies = s.replies := rfl
@[simp] theorem State.setPanor_commands (b : Buf) (p : Panel) (o : Orient) :
    (s.setPanor b p o).commands = s.commands := rfl

/-! ### `setRowor` -/

@[simp] theorem State.setRowor_build (b : Buf) (p : Panel) (r : Fin 8) (o : Orient) :
    (s.setRowor b p r o).build = s.build := rfl
@[simp] theorem State.setRowor_fs (b : Buf) (p : Panel) (r : Fin 8) (o : Orient) :
    (s.setRowor b p r o).fs = s.fs := rfl
@[simp] theorem State.setRowor_panor (b : Buf) (p : Panel) (r : Fin 8) (o : Orient) :
    (s.setRowor b p r o).panor = s.panor := rfl
@[simp] theorem State.setRowor_subCycle (b : Buf) (p : Panel) (r : Fin 8) (o : Orient) :
    (s.setRowor b p r o).subCycle = s.subCycle := rfl
@[simp] theorem State.setRowor_row (b : Buf) (p : Panel) (r : Fin 8) (o : Orient) :
    (s.setRowor b p r o).row = s.row := rfl
@[simp] theorem State.setRowor_displayIndex (b : Buf) (p : Panel) (r : Fin 8) (o : Orient) :
    (s.setRowor b p r o).displayIndex = s.displayIndex := rfl
@[simp] theorem State.setRowor_animateIndex (b : Buf) (p : Panel) (r : Fin 8) (o : Orient) :
    (s.setRowor b p r o).animateIndex = s.animateIndex := rfl
@[simp] theorem State.setRowor_swapPending (b : Buf) (p : Panel) (r : Fin 8) (o : Orient) :
    (s.setRowor b p r o).swapPending = s.swapPending := rfl
@[simp] theorem State.setRowor_blankSeq (b : Buf) (p : Panel) (r : Fin 8) (o : Orient) :
    (s.setRowor b p r o).blankSeq = s.blankSeq := rfl
@[simp] theorem State.setRowor_blankHold (b : Buf) (p : Panel) (r : Fin 8) (o : Orient) :
    (s.setRowor b p r o).blankHold = s.blankHold := rfl
@[simp] theorem State.setRowor_wide (b : Buf) (p : Panel) (r : Fin 8) (o : Orient) :
    (s.setRowor b p r o).wide = s.wide := rfl
@[simp] theorem State.setRowor_tall (b : Buf) (p : Panel) (r : Fin 8) (o : Orient) :
    (s.setRowor b p r o).tall = s.tall := rfl
@[simp] theorem State.setRowor_wrap (b : Buf) (p : Panel) (r : Fin 8) (o : Orient) :
    (s.setRowor b p r o).wrap = s.wrap := rfl
@[simp] theorem State.setRowor_gfxPanel (b : Buf) (p : Panel) (r : Fin 8) (o : Orient) :
    (s.setRowor b p r o).gfxPanel = s.gfxPanel := rfl
@[simp] theorem State.setRowor_animRegistered (b : Buf) (p : Panel) (r : Fin 8) (o : Orient) :
    (s.setRowor b p r o).animRegistered = s.animRegistered := rfl
@[simp] theorem State.setRowor_animPeriod (b : Buf) (p : Panel) (r : Fin 8) (o : Orient) :
    (s.setRowor b p r o).animPeriod = s.animPeriod := rfl
@[simp] theorem State.setRowor_animActive (b : Buf) (p : Panel) (r : Fin 8) (o : Orient) :
    (s.setRowor b p r o).animActive = s.animActive := rfl
@[simp] theorem State.setRowor_animSavedHold (b : Buf) (p : Panel) (r : Fin 8) (o : Orient) :
    (s.setRowor b p r o).animSavedHold = s.animSavedHold := rfl
@[simp] theorem State.setRowor_pins (b : Buf) (p : Panel) (r : Fin 8) (o : Orient) :
    (s.setRowor b p r o).pins = s.pins := rfl
@[simp] theorem State.setRowor_trace (b : Buf) (p : Panel) (r : Fin 8) (o : Orient) :
    (s.setRowor b p r o).trace = s.trace := rfl
@[simp] theorem State.setRowor_replies (b : Buf) (p : Panel) (r : Fin 8) (o : Orient) :
    (s.setRowor b p r o).replies = s.replies := rfl
@[simp] theorem State.setRowor_commands (b : Buf) (p : Panel) (r : Fin 8) (o : Orient) :
    (s.setRowor b p r o).commands = s.commands := rfl

/-! ### `setAllRowor` -/

@[simp] theorem State.setAllRowor_build (b : Buf) (p : Panel) (o : Orient) :
    (s.setAllRowor b p o).build = s.build := rfl
@[simp] theorem State.setAllRowor_fs (b : Buf) (p : Panel) (o : Orient) :
    (s.setAllRowor b p o).fs = s.fs := rfl
@[simp] theorem State.setAllRowor_panor (b : Buf) (p : Panel) (o : Orient) :
    (s.setAllRowor b p o).panor = s.panor := rfl
@[simp] theorem State.setAllRowor_subCycle (b : Buf) (p : Panel) (o : Orient) :
    (s.setAllRowor b p o).subCycle = s.subCycle := rfl
@[simp] theorem State.setAllRowor_row (b : Buf) (p : Panel) (o : Orient) :
    (s.setAllRowor b p o).row = s.row := rfl
@[simp] theorem State.setAllRowor_displayIndex (b : Buf) (p : Panel) (o : Orient) :
    (s.setAllRowor b p o).displayIndex = s.displayIndex := rfl
@[simp] theorem State.setAllRowor_animateIndex (b : Buf) (p : Panel) (o : Orient) :
    (s.setAllRowor b p o).animateIndex = s.animateIndex := rfl
@[simp] theorem State.setAllRowor_swapPending (b : Buf) (p : Panel) (o : Orient) :
    (s.setAllRowor b p o).swapPending = s.swapPending := rfl
@[simp] theorem State.setAllRowor_blankSeq (b : Buf) (p : Panel) (o : Orient) :
    (s.setAllRowor b p o).blankSeq = s.blankSeq := rfl
@[simp] theorem State.setAllRowor_blankHold (b : Buf) (p : Panel) (o : Orient) :
    (s.setAllRowor b p o).blankHold = s.blankHold := rfl
@[simp] theorem State.setAllRowor_wide (b : Buf) (p : Panel) (o : Orient) :
    (s.setAllRowor b p o).wide = s.wide := rfl
@[simp] theorem State.setAllRowor_tall (b : Buf) (p : Panel) (o : Orient) :
    (s.setAllRowor b p o).tall = s.tall := rfl
@[simp] theorem State.setAllRowor_wrap (b : Buf) (p : Panel) (o : Orient) :
    (s.setAllRowor b p o).wrap = s.wrap := rfl
@[simp] theorem State.setAllRowor_gfxPanel (b : Buf) (p : Panel) (o : Orient) :
    (s.setAllRowor b p o).gfxPanel = s.gfxPanel := rfl
@[simp] theorem State.setAllRowor_animRegistered (b : Buf) (p : Panel) (o : Orient) :
    (s.setAllRowor b p o).animRegistered = s.animRegistered := rfl
@[simp] theorem State.setAllRowor_animPeriod (b : Buf) (p : Panel) (o : Orient) :
    (s.setAllRowor b p o).animPeriod = s.animPeriod := rfl
@[simp] theorem State.setAllRowor_animActive (b : Buf) (p : Panel) (o : Orient) :
    (s.setAllRowor b p o).animActive = s.animActive := rfl
@[simp] theorem State.setAllRowor_animSavedHold (b : Buf) (p : Panel) (o : Orient) :
    (s.setAllRowor b p o).animSavedHold = s.animSavedHold := rfl
@[simp] theorem State.setAllRowor_pins (b : Buf) (p : Panel) (o : Orient) :
    (s.setAllRowor b p o).pins = s.pins := rfl
@[simp] theorem State.setAllRowor_trace (b : Buf) (p : Panel) (o : Orient) :
    (s.setAllRowor b p o).trace = s.trace := rfl
@[simp] theorem State.setAllRowor_replies (b : Buf) (p : Panel) (o : Orient) :
    (s.setAllRowor b p o).replies = s.replies := rfl
@[simp] theorem State.setAllRowor_commands (b : Buf) (p : Panel) (o : Orient) :
    (s.setAllRowor b p o).commands = s.commands := rfl

/-! ### `reply` -/

@[simp] theorem State.reply_build (v : Reply) :
    (s.reply v).build = s.build := rfl
@[simp] theorem State.reply_fs (v : Reply) :
    (s.reply v).fs = s.fs := rfl
@[simp] theorem State.reply_panor (v : Reply) :
    (s.reply v).panor = s.panor := rfl
@[simp] theorem State.reply_rowor (v : Reply) :
    (s.reply v).rowor = s.rowor := rfl
@[simp] theorem State.reply_subCycle (v : Reply) :
    (s.reply v).subCycle = s.subCycle := rfl
@[simp] theorem State.reply_row (v : Reply) :
    (s.reply v).row = s.row := rfl
@[simp] theorem State.reply_displayIndex (v : Reply) :
    (s.reply v).displayIndex = s.displayIndex := rfl
@[simp] theorem State.reply_animateIndex (v : Reply) :
    (s.reply v).animateIndex = s.animateIndex := rfl
@[simp] theorem State.reply_swapPending (v : Reply) :
    (s.reply v).swapPending = s.swapPending := rfl
@[simp] theorem State.reply_blankSeq (v : Reply) :
    (s.reply v).blankSeq = s.blankSeq := rfl
@[simp] theorem State.reply_blankHold (v : Reply) :
    (s.reply v).blankHold = s.blankHold := rfl
@[simp] theorem State.reply_wide (v : Reply) :
    (s.reply v).wide = s.wide := rfl
@[simp] theorem State.reply_tall (v : Reply) :
    (s.reply v).tall = s.tall := rfl
@[simp] theorem State.reply_wrap (v : Reply) :
    (s.reply v).wrap = s.wrap := rfl
@[simp] theorem State.reply_gfxPanel (v : Reply) :
    (s.reply v).gfxPanel = s.gfxPanel := rfl
@[simp] theorem State.reply_animRegistered (v : Reply) :
    (s.reply v).animRegistered = s.animRegistered := rfl
@[simp] theorem State.reply_animPeriod (v : Reply) :
    (s.reply v).animPeriod = s.animPeriod := rfl
@[simp] theorem State.reply_animActive (v : Reply) :
    (s.reply v).animActive = s.animActive := rfl
@[simp] theorem State.reply_animSavedHold (v : Reply) :
    (s.reply v).animSavedHold = s.animSavedHold := rfl
@[simp] theorem State.reply_pins (v : Reply) :
    (s.reply v).pins = s.pins := rfl
@[simp] theorem State.reply_trace (v : Reply) :
    (s.reply v).trace = s.trace := rfl
@[simp] theorem State.reply_replies (v : Reply) :
    (s.reply v).replies = s.replies ++ [v] := rfl
@[simp] theorem State.reply_commands (v : Reply) :
    (s.reply v).commands = s.commands := rfl

/-! ### `drive` -/

@[simp] theorem State.drive_build (es : List PinEvent) :
    (s.drive es).build = s.build := rfl
@[simp] theorem State.drive_fs (es : List PinEvent) :
    (s.drive es).fs = s.fs := rfl
@[simp] theorem State.drive_panor (es : List PinEvent) :
    (s.drive es).panor = s.panor := rfl
@[simp] theorem State.drive_rowor (es : List PinEvent) :
    (s.drive es).rowor = s.rowor := rfl
@[simp] theorem State.drive_subCycle (es : List PinEvent) :
    (s.drive es).subCycle = s.subCycle := rfl
@[simp] theorem State.drive_row (es : List PinEvent) :
    (s.drive es).row = s.row := rfl
@[simp] theorem State.drive_displayIndex (es : List PinEvent) :
    (s.drive es).displayIndex = s.displayIndex := rfl
@[simp] theorem State.drive_animateIndex (es : List PinEvent) :
    (s.drive es).animateIndex = s.animateIndex := rfl
@[simp] theorem State.drive_swapPending (es : List PinEvent) :
    (s.drive es).swapPending = s.swapPending := rfl
@[simp] theorem State.drive_blankSeq (es : List PinEvent) :
    (s.drive es).blankSeq = s.blankSeq := rfl
@[simp] theorem State.drive_blankHold (es : List PinEvent) :
    (s.drive es).blankHold = s.blankHold := rfl
@[simp] theorem State.drive_wide (es : List PinEvent) :
    (s.drive es).wide = s.wide := rfl
@[simp] theorem State.drive_tall (es : List PinEvent) :
    (s.drive es).tall = s.tall := rfl
@[simp] theorem State.drive_wrap (es : List PinEvent) :
    (s.drive es).wrap = s.wrap := rfl
@[simp] theorem State.drive_gfxPanel (es : List PinEvent) :
    (s.drive es).gfxPanel = s.gfxPanel := rfl
@[simp] theorem State.drive_animRegistered (es : List PinEvent) :
    (s.drive es).animRegistered = s.animRegistered := rfl
@[simp] theorem State.drive_animPeriod (es : List PinEvent) :
    (s.drive es).animPeriod = s.animPeriod := rfl
@[simp] theorem State.drive_animActive (es : List PinEvent) :
    (s.drive es).animActive = s.animActive := rfl
@[simp] theorem State.drive_animSavedHold (es : List PinEvent) :
    (s.drive es).animSavedHold = s.animSavedHold := rfl
@[simp] theorem State.drive_pins (es : List PinEvent) :
    (s.drive es).pins = es.foldl Pins.write s.pins := rfl
@[simp] theorem State.drive_trace (es : List PinEvent) :
    (s.drive es).trace = s.trace ++ es := rfl
@[simp] theorem State.drive_replies (es : List PinEvent) :
    (s.drive es).replies = s.replies := rfl
@[simp] theorem State.drive_commands (es : List PinEvent) :
    (s.drive es).commands = s.commands := rfl

/-! ### `driveOe` -/

@[simp] theorem State.driveOe_build :
    s.driveOe.build = s.build := rfl
@[simp] theorem State.driveOe_fs :
    s.driveOe.fs = s.fs := rfl
@[simp] theorem State.driveOe_panor :
    s.driveOe.panor = s.panor := rfl
@[simp] theorem State.driveOe_rowor :
    s.driveOe.rowor = s.rowor := rfl
@[simp] theorem State.driveOe_subCycle :
    s.driveOe.subCycle = s.subCycle := rfl
@[simp] theorem State.driveOe_row :
    s.driveOe.row = s.row := rfl
@[simp] theorem State.driveOe_displayIndex :
    s.driveOe.displayIndex = s.displayIndex := rfl
@[simp] theorem State.driveOe_animateIndex :
    s.driveOe.animateIndex = s.animateIndex := rfl
@[simp] theorem State.driveOe_swapPending :
    s.driveOe.swapPending = s.swapPending := rfl
@[simp] theorem State.driveOe_blankSeq :
    s.driveOe.blankSeq = s.blankSeq := rfl
@[simp] theorem State.driveOe_blankHold :
    s.driveOe.blankHold = s.blankHold := rfl
@[simp] theorem State.driveOe_wide :
    s.driveOe.wide = s.wide := rfl
@[simp] theorem State.driveOe_tall :
    s.driveOe.tall = s.tall := rfl
@[simp] theorem State.driveOe_wrap :
    s.driveOe.wrap = s.wrap := rfl
@[simp] theorem State.driveOe_gfxPanel :
    s.driveOe.gfxPanel = s.gfxPanel := rfl
@[simp] theorem State.driveOe_animRegistered :
    s.driveOe.animRegistered = s.animRegistered := rfl
@[simp] theorem State.driveOe_animPeriod :
    s.driveOe.animPeriod = s.animPeriod := rfl
@[simp] theorem State.driveOe_animActive :
    s.driveOe.animActive = s.animActive := rfl
@[simp] theorem State.driveOe_animSavedHold :
    s.driveOe.animSavedHold = s.animSavedHold := rfl
@[simp] theorem State.driveOe_pins :
    s.driveOe.pins = { s.pins with oeN := s.blankSeq || s.blankHold } := rfl
@[simp] theorem State.driveOe_trace :
    s.driveOe.trace = s.trace ++ [.oeN (s.blankSeq || s.blankHold)] := rfl
@[simp] theorem State.driveOe_replies :
    s.driveOe.replies = s.replies := rfl
@[simp] theorem State.driveOe_commands :
    s.driveOe.commands = s.commands := rfl

/-! ### `setBlankHold` -/

@[simp] theorem State.setBlankHold_build (v : Bool) :
    (s.setBlankHold v).build = s.build := rfl
@[simp] theorem State.setBlankHold_fs (v : Bool) :
    (s.setBlankHold v).fs = s.fs := rfl
@[simp] theorem State.setBlankHold_panor (v : Bool) :
    (s.setBlankHold v).panor = s.panor := rfl
@[simp] theorem State.setBlankHold_rowor (v : Bool) :
    (s.setBlankHold v).rowor = s.rowor := rfl
@[simp] theorem State.setBlankHold_subCycle (v : Bool) :
    (s.setBlankHold v).subCycle = s.subCycle := rfl
@[simp] theorem State.setBlankHold_row (v : Bool) :
    (s.setBlankHold v).row = s.row := rfl
@[simp] theorem State.setBlankHold_displayIndex (v : Bool) :
    (s.setBlankHold v).displayIndex = s.displayIndex := rfl
@[simp] theorem State.setBlankHold_animateIndex (v : Bool) :
    (s.setBlankHold v).animateIndex = s.animateIndex := rfl
@[simp] theorem State.setBlankHold_swapPending (v : Bool) :
    (s.setBlankHold v).swapPending = s.swapPending := rfl
@[simp] theorem State.setBlankHold_blankSeq (v : Bool) :
    (s.setBlankHold v).blankSeq = s.blankSeq := rfl
@[simp] theorem State.setBlankHold_blankHold (v : Bool) :
    (s.setBlankHold v).blankHold = v := rfl
@[simp] theorem State.setBlankHold_wide (v : Bool) :
    (s.setBlankHold v).wide = s.wide := rfl
@[simp] theorem State.setBlankHold_tall (v : Bool) :
    (s.setBlankHold v).tall = s.tall := rfl
@[simp] theorem State.setBlankHold_wrap (v : Bool) :
    (s.setBlankHold v).wrap = s.wrap := rfl
@[simp] theorem State.setBlankHold_gfxPanel (v : Bool) :
    (s.setBlankHold v).gfxPanel = s.gfxPanel := rfl
@[simp] theorem State.setBlankHold_animRegistered (v : Bool) :
    (s.setBlankHold v).animRegistered = s.animRegistered := rfl
@[simp] theorem State.setBlankHold_animPeriod (v : Bool) :
    (s.setBlankHold v).animPeriod = s.animPeriod := rfl
@[simp] theorem State.setBlankHold_animActive (v : Bool) :
    (s.setBlankHold v).animActive = s.animActive := rfl
@[simp] theorem State.setBlankHold_animSavedHold (v : Bool) :
    (s.setBlankHold v).animSavedHold = s.animSavedHold := rfl
@[simp] theorem State.setBlankHold_pins (v : Bool) :
    (s.setBlankHold v).pins = { s.pins with oeN := s.blankSeq || v } := rfl
@[simp] theorem State.setBlankHold_trace (v : Bool) :
    (s.setBlankHold v).trace = s.trace ++ [.oeN (s.blankSeq || v)] := rfl
@[simp] theorem State.setBlankHold_replies (v : Bool) :
    (s.setBlankHold v).replies = s.replies := rfl
@[simp] theorem State.setBlankHold_commands (v : Bool) :
    (s.setBlankHold v).commands = s.commands := rfl

/-! ### `setBlankSeq` -/

@[simp] theorem State.setBlankSeq_build (v : Bool) :
    (s.setBlankSeq v).build = s.build := rfl
@[simp] theorem State.setBlankSeq_fs (v : Bool) :
    (s.setBlankSeq v).fs = s.fs := rfl
@[simp] theorem State.setBlankSeq_panor (v : Bool) :
    (s.setBlankSeq v).panor = s.panor := rfl
@[simp] theorem State.setBlankSeq_rowor (v : Bool) :
    (s.setBlankSeq v).rowor = s.rowor := rfl
@[simp] theorem State.setBlankSeq_subCycle (v : Bool) :
    (s.setBlankSeq v).subCycle = s.subCycle := rfl
@[simp] theorem State.setBlankSeq_row (v : Bool) :
    (s.setBlankSeq v).row = s.row := rfl
@[simp] theorem State.setBlankSeq_displayIndex (v : Bool) :
    (s.setBlankSeq v).displayIndex = s.displayIndex := rfl
@[simp] theorem State.setBlankSeq_animateIndex (v : Bool) :
    (s.setBlankSeq v).animateIndex = s.animateIndex := rfl
@[simp] theorem State.setBlankSeq_swapPending (v : Bool) :
    (s.setBlankSeq v).swapPending = s.swapPending := rfl
@[simp] theorem State.setBlankSeq_blankSeq (v : Bool) :
    (s.setBlankSeq v).blankSeq = v := rfl
@[simp] theorem State.setBlankSeq_blankHold (v : Bool) :
    (s.setBlankSeq v).blankHold = s.blankHold := rfl
@[simp] theorem State.setBlankSeq_wide (v : Bool) :
    (s.setBlankSeq v).wide = s.wide := rfl
@[simp] theorem State.setBlankSeq_tall (v : Bool) :
    (s.setBlankSeq v).tall = s.tall := rfl
@[simp] theorem State.setBlankSeq_wrap (v : Bool) :
    (s.setBlankSeq v).wrap = s.wrap := rfl
@[simp] theorem State.setBlankSeq_gfxPanel (v : Bool) :
    (s.setBlankSeq v).gfxPanel = s.gfxPanel := rfl
@[simp] theorem State.setBlankSeq_animRegistered (v : Bool) :
    (s.setBlankSeq v).animRegistered = s.animRegistered := rfl
@[simp] theorem State.setBlankSeq_animPeriod (v : Bool) :
    (s.setBlankSeq v).animPeriod = s.animPeriod := rfl
@[simp] theorem State.setBlankSeq_animActive (v : Bool) :
    (s.setBlankSeq v).animActive = s.animActive := rfl
@[simp] theorem State.setBlankSeq_animSavedHold (v : Bool) :
    (s.setBlankSeq v).animSavedHold = s.animSavedHold := rfl
@[simp] theorem State.setBlankSeq_pins (v : Bool) :
    (s.setBlankSeq v).pins = { s.pins with oeN := v || s.blankHold } := rfl
@[simp] theorem State.setBlankSeq_trace (v : Bool) :
    (s.setBlankSeq v).trace = s.trace ++ [.oeN (v || s.blankHold)] := rfl
@[simp] theorem State.setBlankSeq_replies (v : Bool) :
    (s.setBlankSeq v).replies = s.replies := rfl
@[simp] theorem State.setBlankSeq_commands (v : Bool) :
    (s.setBlankSeq v).commands = s.commands := rfl

/-! ### `requestDeferredSwap` -/

@[simp] theorem State.requestDeferredSwap_build :
    s.requestDeferredSwap.build = s.build := rfl
@[simp] theorem State.requestDeferredSwap_fs :
    s.requestDeferredSwap.fs = s.fs := rfl
@[simp] theorem State.requestDeferredSwap_panor :
    s.requestDeferredSwap.panor = s.panor := rfl
@[simp] theorem State.requestDeferredSwap_rowor :
    s.requestDeferredSwap.rowor = s.rowor := rfl
@[simp] theorem State.requestDeferredSwap_subCycle :
    s.requestDeferredSwap.subCycle = s.subCycle := rfl
@[simp] theorem State.requestDeferredSwap_row :
    s.requestDeferredSwap.row = s.row := rfl
@[simp] theorem State.requestDeferredSwap_displayIndex :
    s.requestDeferredSwap.displayIndex = s.displayIndex := rfl
@[simp] theorem State.requestDeferredSwap_animateIndex :
    s.requestDeferredSwap.animateIndex = s.animateIndex := rfl
@[simp] theorem State.requestDeferredSwap_swapPending :
    s.requestDeferredSwap.swapPending = true := rfl
@[simp] theorem State.requestDeferredSwap_blankSeq :
    s.requestDeferredSwap.blankSeq = s.blankSeq := rfl
@[simp] theorem State.requestDeferredSwap_blankHold :
    s.requestDeferredSwap.blankHold = s.blankHold := rfl
@[simp] theorem State.requestDeferredSwap_wide :
    s.requestDeferredSwap.wide = s.wide := rfl
@[simp] theorem State.requestDeferredSwap_tall :
    s.requestDeferredSwap.tall = s.tall := rfl
@[simp] theorem State.requestDeferredSwap_wrap :
    s.requestDeferredSwap.wrap = s.wrap := rfl
@[simp] theorem State.requestDeferredSwap_gfxPanel :
    s.requestDeferredSwap.gfxPanel = s.gfxPanel := rfl
@[simp] theorem State.requestDeferredSwap_animRegistered :
    s.requestDeferredSwap.animRegistered = s.animRegistered := rfl
@[simp] theorem State.requestDeferredSwap_animPeriod :
    s.requestDeferredSwap.animPeriod = s.animPeriod := rfl
@[simp] theorem State.requestDeferredSwap_animActive :
    s.requestDeferredSwap.animActive = s.animActive := rfl
@[simp] theorem State.requestDeferredSwap_animSavedHold :
    s.requestDeferredSwap.animSavedHold = s.animSavedHold := rfl
@[simp] theorem State.requestDeferredSwap_pins :
    s.requestDeferredSwap.pins = s.pins := rfl
@[simp] theorem State.requestDeferredSwap_trace :
    s.requestDeferredSwap.trace = s.trace := rfl
@[simp] theorem State.requestDeferredSwap_replies :
    s.requestDeferredSwap.replies = s.replies := rfl
@[simp] theorem State.requestDeferredSwap_commands :
    s.requestDeferredSwap.commands = s.commands := rfl

/-! ### `setModeBits` -/

@[simp] theorem State.setModeBits_build (w t x : Bool) :
    (s.setModeBits w t x).build = s.build := rfl
@[simp] theorem State.setModeBits_fs (w t x : Bool) :
    (s.setModeBits w t x).fs = s.fs := rfl
@[simp] theorem State.setModeBits_panor (w t x : Bool) :
    (s.setModeBits w t x).panor = s.panor := rfl
@[simp] theorem State.setModeBits_rowor (w t x : Bool) :
    (s.setModeBits w t x).rowor = s.rowor := rfl
@[simp] theorem State.setModeBits_subCycle (w t x : Bool) :
    (s.setModeBits w t x).subCycle = s.subCycle := rfl
@[simp] theorem State.setModeBits_row (w t x : Bool) :
    (s.setModeBits w t x).row = s.row := rfl
@[simp] theorem State.setModeBits_displayIndex (w t x : Bool) :
    (s.setModeBits w t x).displayIndex = s.displayIndex := rfl
@[simp] theorem State.setModeBits_animateIndex (w t x : Bool) :
    (s.setModeBits w t x).animateIndex = s.animateIndex := rfl
@[simp] theorem State.setModeBits_swapPending (w t x : Bool) :
    (s.setModeBits w t x).swapPending = s.swapPending := rfl
@[simp] theorem State.setModeBits_blankSeq (w t x : Bool) :
    (s.setModeBits w t x).blankSeq = s.blankSeq := rfl
@[simp] theorem State.setModeBits_blankHold (w t x : Bool) :
    (s.setModeBits w t x).blankHold = s.blankHold := rfl
@[simp] theorem State.setModeBits_wide (w t x : Bool) :
    (s.setModeBits w t x).wide = w := rfl
@[simp] theorem State.setModeBits_tall (w t x : Bool) :
    (s.setModeBits w t x).tall = t := rfl
@[simp] theorem State.setModeBits_wrap (w t x : Bool) :
    (s.setModeBits w t x).wrap = x := rfl
@[simp] theorem State.setModeBits_gfxPanel (w t x : Bool) :
    (s.setModeBits w t x).gfxPanel = s.gfxPanel := rfl
@[simp] theorem State.setModeBits_animRegistered (w t x : Bool) :
    (s.setModeBits w t x).animRegistered = s.animRegistered := rfl
@[simp] theorem State.setModeBits_animPeriod (w t x : Bool) :
    (s.setModeBits w t x).animPeriod = s.animPeriod := rfl
@[simp] theorem State.setModeBits_animActive (w t x : Bool) :
    (s.setModeBits w t x).animActive = s.animActive := rfl
@[simp] theorem State.setModeBits_animSavedHold (w t x : Bool) :
    (s.setModeBits w t x).animSavedHold = s.animSavedHold := rfl
@[simp] theorem State.setModeBits_pins (w t x : Bool) :
    (s.setModeBits w t x).pins = s.pins := rfl
@[simp] theorem State.setModeBits_trace (w t x : Bool) :
    (s.setModeBits w t x).trace = s.trace := rfl
@[simp] theorem State.setModeBits_replies (w t x : Bool) :
    (s.setModeBits w t x).replies = s.replies := rfl
@[simp] theorem State.setModeBits_commands (w t x : Bool) :
    (s.setModeBits w t x).commands = s.commands := rfl

/-! ### `setRegistered` -/

@[simp] theorem State.setRegistered_build (v : Bool) :
    (s.setRegistered v).build = s.build := rfl
@[simp] theorem State.setRegistered_fs (v : Bool) :
    (s.setRegistered v).fs = s.fs := rfl
@[simp] theorem State.setRegistered_panor (v : Bool) :
    (s.setRegistered v).panor = s.panor := rfl
@[simp] theorem State.setRegistered_rowor (v : Bool) :
    (s.setRegistered v).rowor = s.rowor := rfl
@[simp] theorem State.setRegistered_subCycle (v : Bool) :
    (s.setRegistered v).subCycle = s.subCycle := rfl
@[simp] theorem State.setRegistered_row (v : Bool) :
    (s.setRegistered v).row = s.row := rfl
@[simp] theorem State.setRegistered_displayIndex (v : Bool) :
    (s.setRegistered v).displayIndex = s.displayIndex := rfl
@[simp] theorem State.setRegistered_animateIndex (v : Bool) :
    (s.setRegistered v).animateIndex = s.animateIndex := rfl
@[simp] theorem State.setRegistered_swapPending (v : Bool) :
    (s.setRegistered v).swapPending = s.swapPending := rfl
@[simp] theorem State.setRegistered_blankSeq (v : Bool) :
    (s.setRegistered v).blankSeq = s.blankSeq := rfl
@[simp] theorem State.setRegistered_blankHold (v : Bool) :
    (s.setRegistered v).blankHold = s.blankHold := rfl
@[simp] theorem State.setRegistered_wide (v : Bool) :
    (s.setRegistered v).wide = s.wide := rfl
@[simp] theorem State.setRegistered_tall (v : Bool) :
    (s.setRegistered v).tall = s.tall := rfl
@[simp] theorem State.setRegistered_wrap (v : Bool) :
    (s.setRegistered v).wrap = s.wrap := rfl
@[simp] theorem State.setRegistered_gfxPanel (v : Bool) :
    (s.setRegistered v).gfxPanel = s.gfxPanel := rfl
@[simp] theorem State.setRegistered_animRegistered (v : Bool) :
    (s.setRegistered v).animRegistered = v := rfl
@[simp] theorem State.setRegistered_animPeriod (v : Bool) :
    (s.setRegistered v).animPeriod = s.animPeriod := rfl
@[simp] theorem State.setRegistered_animActive (v : Bool) :
    (s.setRegistered v).animActive = s.animActive := rfl
@[simp] theorem State.setRegistered_animSavedHold (v : Bool) :
    (s.setRegistered v).animSavedHold = s.animSavedHold := rfl
@[simp] theorem State.setRegistered_pins (v : Bool) :
    (s.setRegistered v).pins = s.pins := rfl
@[simp] theorem State.setRegistered_trace (v : Bool) :
    (s.setRegistered v).trace = s.trace := rfl
@[simp] theorem State.setRegistered_replies (v : Bool) :
    (s.setRegistered v).replies = s.replies := rfl
@[simp] theorem State.setRegistered_commands (v : Bool) :
    (s.setRegistered v).commands = s.commands := rfl

/-! ### `swap` -/

@[simp] theorem State.swap_build :
    s.swap.build = s.build := rfl
@[simp] theorem State.swap_fs :
    s.swap.fs = s.fs := rfl
@[simp] theorem State.swap_panor :
    s.swap.panor = s.panor := rfl
@[simp] theorem State.swap_rowor :
    s.swap.rowor = s.rowor := rfl
@[simp] theorem State.swap_subCycle :
    s.swap.subCycle = s.subCycle := rfl
@[simp] theorem State.swap_row :
    s.swap.row = s.row := rfl
@[simp] theorem State.swap_displayIndex :
    s.swap.displayIndex = s.animateIndex := rfl
@[simp] theorem State.swap_animateIndex :
    s.swap.animateIndex = s.displayIndex := rfl
@[simp] theorem State.swap_swapPending :
    s.swap.swapPending = s.swapPending := rfl
@[simp] theorem State.swap_blankSeq :
    s.swap.blankSeq = s.blankSeq := rfl
@[simp] theorem State.swap_blankHold :
    s.swap.blankHold = s.blankHold := rfl
@[simp] theorem State.swap_wide :
    s.swap.wide = s.wide := rfl
@[simp] theorem State.swap_tall :
    s.swap.tall = s.tall := rfl
@[simp] theorem State.swap_wrap :
    s.swap.wrap = s.wrap := rfl
@[simp] theorem State.swap_gfxPanel :
    s.swap.gfxPanel = s.gfxPanel := rfl
@[simp] theorem State.swap_animRegistered :
    s.swap.animRegistered = s.animRegistered := rfl
@[simp] theorem State.swap_animPeriod :
    s.swap.animPeriod = s.animPeriod := rfl
@[simp] theorem State.swap_animActive :
    s.swap.animActive = s.animActive := rfl
@[simp] theorem State.swap_animSavedHold :
    s.swap.animSavedHold = s.animSavedHold := rfl
@[simp] theorem State.swap_pins :
    s.swap.pins = s.pins := rfl
@[simp] theorem State.swap_trace :
    s.swap.trace = s.trace := rfl
@[simp] theorem State.swap_replies :
    s.swap.replies = s.replies := rfl
@[simp] theorem State.swap_commands :
    s.swap.commands = s.commands := rfl

/-! ### `takeCommand` -/

@[simp] theorem State.takeCommand_build :
    s.takeCommand.build = s.build := rfl
@[simp] theorem State.takeCommand_fs :
    s.takeCommand.fs = s.fs := rfl
@[simp] theorem State.takeCommand_panor :
    s.takeCommand.panor = s.panor := rfl
@[simp] theorem State.takeCommand_rowor :
    s.takeCommand.rowor = s.rowor := rfl
@[simp] theorem State.takeCommand_subCycle :
    s.takeCommand.subCycle = s.subCycle := rfl
@[simp] theorem State.takeCommand_row :
    s.takeCommand.row = s.row := rfl
@[simp] theorem State.takeCommand_displayIndex :
    s.takeCommand.displayIndex = s.displayIndex := rfl
@[simp] theorem State.takeCommand_animateIndex :
    s.takeCommand.animateIndex = s.animateIndex := rfl
@[simp] theorem State.takeCommand_swapPending :
    s.takeCommand.swapPending = s.swapPending := rfl
@[simp] theorem State.takeCommand_blankSeq :
    s.takeCommand.blankSeq = s.blankSeq := rfl
@[simp] theorem State.takeCommand_blankHold :
    s.takeCommand.blankHold = s.blankHold := rfl
@[simp] theorem State.takeCommand_wide :
    s.takeCommand.wide = s.wide := rfl
@[simp] theorem State.takeCommand_tall :
    s.takeCommand.tall = s.tall := rfl
@[simp] theorem State.takeCommand_wrap :
    s.takeCommand.wrap = s.wrap := rfl
@[simp] theorem State.takeCommand_gfxPanel :
    s.takeCommand.gfxPanel = s.gfxPanel := rfl
@[simp] theorem State.takeCommand_animRegistered :
    s.takeCommand.animRegistered = s.animRegistered := rfl
@[simp] theorem State.takeCommand_animPeriod :
    s.takeCommand.animPeriod = s.animPeriod := rfl
@[simp] theorem State.takeCommand_animActive :
    s.takeCommand.animActive = s.animActive := rfl
@[simp] theorem State.takeCommand_animSavedHold :
    s.takeCommand.animSavedHold = s.animSavedHold := rfl
@[simp] theorem State.takeCommand_pins :
    s.takeCommand.pins = s.pins := rfl
@[simp] theorem State.takeCommand_trace :
    s.takeCommand.trace = s.trace := rfl
@[simp] theorem State.takeCommand_replies :
    s.takeCommand.replies = s.replies := rfl
@[simp] theorem State.takeCommand_commands :
    s.takeCommand.commands = s.commands.tail := rfl

/-! ### `deliver` -/

@[simp] theorem State.deliver_build (w : CommandWord) :
    (s.deliver w).build = s.build := rfl
@[simp] theorem State.deliver_fs (w : CommandWord) :
    (s.deliver w).fs = s.fs := rfl
@[simp] theorem State.deliver_panor (w : CommandWord) :
    (s.deliver w).panor = s.panor := rfl
@[simp] theorem State.deliver_rowor (w : CommandWord) :
    (s.deliver w).rowor = s.rowor := rfl
@[simp] theorem State.deliver_subCycle (w : CommandWord) :
    (s.deliver w).subCycle = s.subCycle := rfl
@[simp] theorem State.deliver_row (w : CommandWord) :
    (s.deliver w).row = s.row := rfl
@[simp] theorem State.deliver_displayIndex (w : CommandWord) :
    (s.deliver w).displayIndex = s.displayIndex := rfl
@[simp] theorem State.deliver_animateIndex (w : CommandWord) :
    (s.deliver w).animateIndex = s.animateIndex := rfl
@[simp] theorem State.deliver_swapPending (w : CommandWord) :
    (s.deliver w).swapPending = s.swapPending := rfl
@[simp] theorem State.deliver_blankSeq (w : CommandWord) :
    (s.deliver w).blankSeq = s.blankSeq := rfl
@[simp] theorem State.deliver_blankHold (w : CommandWord) :
    (s.deliver w).blankHold = s.blankHold := rfl
@[simp] theorem State.deliver_wide (w : CommandWord) :
    (s.deliver w).wide = s.wide := rfl
@[simp] theorem State.deliver_tall (w : CommandWord) :
    (s.deliver w).tall = s.tall := rfl
@[simp] theorem State.deliver_wrap (w : CommandWord) :
    (s.deliver w).wrap = s.wrap := rfl
@[simp] theorem State.deliver_gfxPanel (w : CommandWord) :
    (s.deliver w).gfxPanel = s.gfxPanel := rfl
@[simp] theorem State.deliver_animRegistered (w : CommandWord) :
    (s.deliver w).animRegistered = s.animRegistered := rfl
@[simp] theorem State.deliver_animPeriod (w : CommandWord) :
    (s.deliver w).animPeriod = s.animPeriod := rfl
@[simp] theorem State.deliver_animActive (w : CommandWord) :
    (s.deliver w).animActive = s.animActive := rfl
@[simp] theorem State.deliver_animSavedHold (w : CommandWord) :
    (s.deliver w).animSavedHold = s.animSavedHold := rfl
@[simp] theorem State.deliver_pins (w : CommandWord) :
    (s.deliver w).pins = s.pins := rfl
@[simp] theorem State.deliver_trace (w : CommandWord) :
    (s.deliver w).trace = s.trace := rfl
@[simp] theorem State.deliver_replies (w : CommandWord) :
    (s.deliver w).replies = s.replies := rfl
@[simp] theorem State.deliver_commands (w : CommandWord) :
    (s.deliver w).commands = s.commands ++ [w] := rfl

/-! ### `clockOut` -/

@[simp] theorem State.clockOut_build :
    s.clockOut.build = s.build := rfl
@[simp] theorem State.clockOut_fs :
    s.clockOut.fs = s.fs := rfl
@[simp] theorem State.clockOut_panor :
    s.clockOut.panor = s.panor := rfl
@[simp] theorem State.clockOut_rowor :
    s.clockOut.rowor = s.rowor := rfl
@[simp] theorem State.clockOut_subCycle :
    s.clockOut.subCycle = s.subCycle := rfl
@[simp] theorem State.clockOut_row :
    s.clockOut.row = s.row := rfl
@[simp] theorem State.clockOut_displayIndex :
    s.clockOut.displayIndex = s.displayIndex := rfl
@[simp] theorem State.clockOut_animateIndex :
    s.clockOut.animateIndex = s.animateIndex := rfl
@[simp] theorem State.clockOut_swapPending :
    s.clockOut.swapPending = s.swapPending := rfl
@[simp] theorem State.clockOut_blankSeq :
    s.clockOut.blankSeq = s.blankSeq := rfl
@[simp] theorem State.clockOut_blankHold :
    s.clockOut.blankHold = s.blankHold := rfl
@[simp] theorem State.clockOut_wide :
    s.clockOut.wide = s.wide := rfl
@[simp] theorem State.clockOut_tall :
    s.clockOut.tall = s.tall := rfl
@[simp] theorem State.clockOut_wrap :
    s.clockOut.wrap = s.wrap := rfl
@[simp] theorem State.clockOut_gfxPanel :
    s.clockOut.gfxPanel = s.gfxPanel := rfl
@[simp] theorem State.clockOut_animRegistered :
    s.clockOut.animRegistered = s.animRegistered := rfl
@[simp] theorem State.clockOut_animPeriod :
    s.clockOut.animPeriod = s.animPeriod := rfl
@[simp] theorem State.clockOut_animActive :
    s.clockOut.animActive = s.animActive := rfl
@[simp] theorem State.clockOut_animSavedHold :
    s.clockOut.animSavedHold = s.animSavedHold := rfl
@[simp] theorem State.clockOut_pins :
    s.clockOut.pins = (s.serialFrame.flatMap clockBit).foldl Pins.write s.pins := rfl
@[simp] theorem State.clockOut_trace :
    s.clockOut.trace = s.trace ++ s.serialFrame.flatMap clockBit := rfl
@[simp] theorem State.clockOut_replies :
    s.clockOut.replies = s.replies := rfl
@[simp] theorem State.clockOut_commands :
    s.clockOut.commands = s.commands := rfl

/-! ### `latchRow` -/

@[simp] theorem State.latchRow_build :
    s.latchRow.build = s.build := rfl
@[simp] theorem State.latchRow_fs :
    s.latchRow.fs = s.fs := rfl
@[simp] theorem State.latchRow_panor :
    s.latchRow.panor = s.panor := rfl
@[simp] theorem State.latchRow_rowor :
    s.latchRow.rowor = s.rowor := rfl
@[simp] theorem State.latchRow_subCycle :
    s.latchRow.subCycle = s.subCycle := rfl
@[simp] theorem State.latchRow_row :
    s.latchRow.row = s.row := rfl
@[simp] theorem State.latchRow_displayIndex :
    s.latchRow.displayIndex = s.displayIndex := rfl
@[simp] theorem State.latchRow_animateIndex :
    s.latchRow.animateIndex = s.animateIndex := rfl
@[simp] theorem State.latchRow_swapPending :
    s.latchRow.swapPending = s.swapPending := rfl
@[simp] theorem State.latchRow_blankSeq :
    s.latchRow.blankSeq = false := rfl
@[simp] theorem State.latchRow_blankHold :
    s.latchRow.blankHold = s.blankHold := rfl
@[simp] theorem State.latchRow_wide :
    s.latchRow.wide = s.wide := rfl
@[simp] theorem State.latchRow_tall :
    s.latchRow.tall = s.tall := rfl
@[simp] theorem State.latchRow_wrap :
    s.latchRow.wrap = s.wrap := rfl
@[simp] theorem State.latchRow_gfxPanel :
    s.latchRow.gfxPanel = s.gfxPanel := rfl
@[simp] theorem State.latchRow_animRegistered :
    s.latchRow.animRegistered = s.animRegistered := rfl
@[simp] theorem State.latchRow_animPeriod :
    s.latchRow.animPeriod = s.animPeriod := rfl
@[simp] theorem State.latchRow_animActive :
    s.latchRow.animActive = s.animActive := rfl
@[simp] theorem State.latchRow_animSavedHold :
    s.latchRow.animSavedHold = s.animSavedHold := rfl
@[simp] theorem State.latchRow_replies :
    s.latchRow.replies = s.replies := rfl
@[simp] theorem State.latchRow_commands :
    s.latchRow.commands = s.commands := rfl

end Sys2Proof.Machine
end

