-- ==== Sys2Proof/Laws/Ops.lean ====
section
/-! SUPPORT. What each shared operation can do, said once: reads after writes of the frame store and of
the flags of orientation, one LED's write and read, the entry and exit of an animation invocation. -/

namespace Sys2Proof.Machine

open Sys2Proof

/-! ## Plane words -/

/-- An update that keeps the list of plane words keeps what every place reads. -/
theorem State.fsRead_congr {s t : State} (h : t.fs = s.fs) (b : Buf) (p : Panel) (r : Fin 8)
    (c : Chan) : t.fsRead b p r c = s.fsRead b p r c := by
  rw [State.fsRead, State.fsRead, h]

theorem State.fsRead_fsWrite_same {s : State} (h : s.fs.wf = true) (b : Buf) (p : Panel) (r : Fin 8)
    (c : Chan) (v : PlaneWord) :
    (s.fsWrite b p r c v).fsRead b p r c = v &&& s.depth.planeMask :=
  Memory.read_write_same h _ _

theorem State.fsRead_fsWrite_other (s : State) {b b' : Buf} {p p' : Panel} {r r' : Fin 8}
    {c c' : Chan} (hne : ¬ (b' = b ∧ p' = p ∧ r' = r ∧ c' = c)) (v : PlaneWord) :
    (s.fsWrite b p r c v).fsRead b' p' r' c' = s.fsRead b' p' r' c' :=
  Memory.read_write_other _ (fun e => hne (wordNumber_inj e)) _

theorem State.fsWrite_wf {s : State} (h : s.fs.wf = true) (b : Buf) (p : Panel) (r : Fin 8) (c : Chan)
    (v : PlaneWord) : (s.fsWrite b p r c v).fs.wf = true :=
  Memory.wf_write h (wordNumber_lt _ _ _ _) _

theorem State.fsWrite_fits {s : State} (h : s.fs.fits s.depth = true) (b : Buf) (p : Panel) (r : Fin 8)
    (c : Chan) (v : PlaneWord) : (s.fsWrite b p r c v).fs.fits s.depth = true :=
  Memory.fits_write h _ (by rw [BitVec.and_assoc, BitVec.and_self])

/-! ## One field -/

@[simp] theorem State.writeField_depth (s : State) (b : Buf) (p : Panel) (r pos : Fin 8) (c : Chan)
    (v : Level) : (s.writeField b p r pos c v).depth = s.depth := rfl

/-- Writing a field changes the list of plane words and nothing else. -/
theorem State.writeField_frame (s : State) (b : Buf) (p : Panel) (r pos : Fin 8) (c : Chan)
    (v : Level) :
    s.writeField b p r pos c v = { s with fs := (s.writeField b p r pos c v).fs } := rfl

theorem State.writeField_wf {s : State} (h : s.fs.wf = true) (b : Buf) (p : Panel) (r pos : Fin 8)
    (c : Chan) (v : Level) : (s.writeField b p r pos c v).fs.wf = true :=
  State.fsWrite_wf h b p r c _

theorem State.writeField_fits {s : State} (h : s.fs.fits s.depth = true) (b : Buf) (p : Panel)
    (r pos : Fin 8) (c : Chan) (v : Level) : (s.writeField b p r pos c v).fs.fits s.depth = true :=
  State.fsWrite_fits h b p r c _

/-- Writing a field leaves every other number of the list alone. -/
theorem State.read_writeField_other (s : State) {b : Buf} {p : Panel} {r : Fin 8} {c : Chan} {a : Nat}
    (ha : a ≠ wordNumber b p r c) (pos : Fin 8) (v : Level) :
    (s.writeField b p r pos c v).fs.read a = s.fs.read a :=
  Memory.read_write_other _ ha _

/-- The field written reads as the level written. -/
theorem State.fieldAt_writeField_same {s : State} (h : s.fs.wf = true) (b : Buf) (p : Panel)
    (r pos : Fin 8) (c : Chan) {v : Level} (hv : v &&& s.depth.mask = v) :
    fieldAt s.depth ((s.writeField b p r pos c v).fsRead b p r c) pos = v := by
  rw [State.writeField, State.fsRead_fsWrite_same h, fieldAt_planeMask, fieldAt_withField_same _ _ hv]

/-- The other seven fields of the word are unchanged. -/
theorem State.fieldAt_writeField_other {s : State} (h : s.fs.wf = true) (b : Buf) (p : Panel)
    (r : Fin 8) {pos q : Fin 8} (hq : q ≠ pos) (c : Chan) {v : Level} (hv : v &&& s.depth.mask = v) :
    fieldAt s.depth ((s.writeField b p r pos c v).fsRead b p r c) q =
      fieldAt s.depth (s.fsRead b p r c) q := by
  rw [State.writeField, State.fsRead_fsWrite_same h, fieldAt_planeMask,
    fieldAt_withField_other _ hq hv]

/-- Another plane's word of the same Row is unchanged. -/
theorem State.fsRead_writeField_plane (s : State) (b : Buf) (p : Panel) (r pos : Fin 8) {c c' : Chan}
    (hc : c' ≠ c) (v : Level) :
    (s.writeField b p r pos c v).fsRead b p r c' = s.fsRead b p r c' :=
  State.fsRead_fsWrite_other s (fun h => hc h.2.2.2) _

/-! ## One LED -/

/-- A Pixel whose channels have only their `D` bits. -/
def Pixel.masked (d : Depth) (px : Pixel) : Prop := ∀ c, px.chan c &&& d.mask = px.chan c

theorem pixelOf_masked (d : Depth) (r g b : BitVec 8) : (pixelOf d r g b).masked d := by
  intro c
  cases c <;> simp [pixelOf, Pixel.chan]

theorem unpackColor_masked (d : Depth) (c : ColorWord) : (unpackColor d c).masked d := by
  intro ch
  cases ch <;> simp [unpackColor, Pixel.chan]

/-- Writing an LED changes the list of plane words and nothing else. -/
theorem State.writeLed_frame (s : State) (b : Buf) (p : Panel) (r idx : Fin 8) (px : Pixel) :
    s.writeLed b p r idx px = { s with fs := (s.writeLed b p r idx px).fs } := rfl

@[simp] theorem State.writeLed_depth (s : State) (b : Buf) (p : Panel) (r idx : Fin 8) (px : Pixel) :
    (s.writeLed b p r idx px).depth = s.depth := rfl

@[simp] theorem State.writeLed_roworAt (s : State) (b : Buf) (p : Panel) (r idx : Fin 8) (px : Pixel)
    (b' : Buf) (p' : Panel) (r' : Fin 8) :
    (s.writeLed b p r idx px).roworAt b' p' r' = s.roworAt b' p' r' := rfl

theorem State.writeLed_wf {s : State} (h : s.fs.wf = true) (b : Buf) (p : Panel) (r idx : Fin 8)
    (px : Pixel) : (s.writeLed b p r idx px).fs.wf = true :=
  State.writeField_wf (State.writeField_wf (State.writeField_wf h ..) ..) ..

theorem State.writeLed_fits {s : State} (h : s.fs.fits s.depth = true) (b : Buf) (p : Panel)
    (r idx : Fin 8) (px : Pixel) : (s.writeLed b p r idx px).fs.fits s.depth = true :=
  State.writeField_fits (s := State.writeField _ b p r _ .green px.g)
    (State.writeField_fits (s := State.writeField _ b p r _ .red px.r)
      (State.writeField_fits h ..) ..) ..

/-- Writing an LED leaves every number alone but those of its Row's three words. -/
theorem State.read_writeLed_other (s : State) (b : Buf) (p : Panel) (r idx : Fin 8) (px : Pixel)
    {a : Nat} (ha : ∀ c, a ≠ wordNumber b p r c) :
    (s.writeLed b p r idx px).fs.read a = s.fs.read a := by
  unfold State.writeLed
  rw [State.read_writeField_other _ (ha .blue), State.read_writeField_other _ (ha .green),
    State.read_writeField_other _ (ha .red)]

/-- A place of another Row, Panel or buffer reads as before. -/
theorem State.fsRead_writeLed_other (s : State) {b b' : Buf} {p p' : Panel} {r r' : Fin 8}
    (hne : ¬ (b' = b ∧ p' = p ∧ r' = r)) (idx : Fin 8) (px : Pixel) (c : Chan) :
    (s.writeLed b p r idx px).fsRead b' p' r' c = s.fsRead b' p' r' c :=
  State.read_writeLed_other s b p r idx px fun _ e =>
    hne ⟨(wordNumber_inj e).1, (wordNumber_inj e).2.1, (wordNumber_inj e).2.2.1⟩

/-- The written LED's field holds its channel in each plane. -/
theorem State.fieldAt_writeLed_same {s : State} (h : s.fs.wf = true) (b : Buf) (p : Panel)
    (r idx : Fin 8) {px : Pixel} (hpx : px.masked s.depth) (c : Chan) :
    fieldAt s.depth ((s.writeLed b p r idx px).fsRead b p r c) (s.ledField b p r idx) =
      px.chan c := by
  have h1 := State.writeField_wf h b p r (s.ledField b p r idx) .red px.r
  have h2 := State.writeField_wf h1 b p r (s.ledField b p r idx) .green px.g
  unfold State.writeLed
  cases c
  · rw [State.fsRead_writeField_plane _ _ _ _ _ (by decide),
      State.fsRead_writeField_plane _ _ _ _ _ (by decide)]
    exact State.fieldAt_writeField_same h b p r _ .red (hpx .red)
  · rw [State.fsRead_writeField_plane _ _ _ _ _ (by decide)]
    exact State.fieldAt_writeField_same h1 b p r _ .green (hpx .green)
  · exact State.fieldAt_writeField_same h2 b p r _ .blue (hpx .blue)

/-- Every other field of the Row's three words is unchanged. -/
theorem State.fieldAt_writeLed_other {s : State} (h : s.fs.wf = true) (b : Buf) (p : Panel)
    (r idx : Fin 8) {px : Pixel} (hpx : px.masked s.depth) (c : Chan) {q : Fin 8}
    (hq : q ≠ s.ledField b p r idx) :
    fieldAt s.depth ((s.writeLed b p r idx px).fsRead b p r c) q =
      fieldAt s.depth (s.fsRead b p r c) q := by
  have h1 := State.writeField_wf h b p r (s.ledField b p r idx) .red px.r
  have h2 := State.writeField_wf h1 b p r (s.ledField b p r idx) .green px.g
  unfold State.writeLed
  cases c
  · rw [State.fsRead_writeField_plane _ _ _ _ _ (by decide),
      State.fsRead_writeField_plane _ _ _ _ _ (by decide)]
    exact State.fieldAt_writeField_other h b p r hq .red (hpx .red)
  · rw [State.fsRead_writeField_plane _ _ _ _ _ (by decide)]
    refine (State.fieldAt_writeField_other h1 b p r hq .green (hpx .green)).trans ?_
    rw [State.fsRead_writeField_plane _ _ _ _ _ (by decide), State.writeField_depth]
  · refine (State.fieldAt_writeField_other h2 b p r hq .blue (hpx .blue)).trans ?_
    rw [State.fsRead_writeField_plane _ _ _ _ _ (by decide),
      State.fsRead_writeField_plane _ _ _ _ _ (by decide), State.writeField_depth,
      State.writeField_depth]

/-- What is read of an LED has only its `D` bits. -/
theorem State.readLed_masked (s : State) (b : Buf) (p : Panel) (r idx : Fin 8) :
    (s.readLed b p r idx).masked s.depth := by
  intro c
  cases c <;> simp [State.readLed, Pixel.chan]

/-- A channel of an LED read is the field of its plane (R154). -/
theorem State.readLed_chan (s : State) (b : Buf) (p : Panel) (r idx : Fin 8) (c : Chan) :
    (s.readLed b p r idx).chan c = fieldAt s.depth (s.fsRead b p r c) (s.ledField b p r idx) := by
  cases c <;> rfl

/-- Two Pixels with the same channels are the same (R92). -/
theorem Pixel.ext_chan {a b : Pixel} (h : ∀ c, a.chan c = b.chan c) : a = b := by
  have hr := h .red
  have hg := h .green
  have hb := h .blue
  cases a
  cases b
  simp_all [Pixel.chan]

/-! ## Flags of orientation -/

theorem Buf.idx_inj {b b' : Buf} : b.idx = b'.idx ↔ b = b' := by
  cases b <;> cases b' <;> decide

theorem Panel.idx_inj {p p' : Panel} : p.idx = p'.idx ↔ p = p' := by
  cases p <;> cases p' <;> decide

theorem Vector.get_set_eq {α : Type} {n : Nat} (v : Vector α n) (i j : Fin n) (x : α) :
    (v.set i x).get j = if i = j then x else v.get j := by
  simp only [Vector.get_eq_getElem, Vector.getElem_set, Fin.ext_iff]

theorem State.panorAt_setPanor (s : State) (b b' : Buf) (p p' : Panel) (o : Orient) :
    (s.setPanor b p o).panorAt b' p' = if b' = b ∧ p' = p then o else s.panorAt b' p' := by
  simp only [State.panorAt, State.setPanor, Vector.get_set_eq, Buf.idx_inj]
  by_cases hb : b = b'
  · subst hb
    simp only [if_true, Vector.get_set_eq, Panel.idx_inj, true_and]
    by_cases hp : p = p'
    · simp [hp]
    · simp [hp, Ne.symm hp]
  · simp [hb, Ne.symm hb]

theorem State.roworAt_setRowor (s : State) (b b' : Buf) (p p' : Panel) (r r' : Fin 8) (o : Orient) :
    (s.setRowor b p r o).roworAt b' p' r' =
      if b' = b ∧ p' = p ∧ r' = r then o else s.roworAt b' p' r' := by
  simp only [State.roworAt, State.setRowor, Vector.get_set_eq, Buf.idx_inj]
  by_cases hb : b = b'
  · subst hb
    simp only [if_true, Vector.get_set_eq, Panel.idx_inj, true_and]
    by_cases hp : p = p'
    · subst hp
      simp only [if_true, Vector.get_set_eq, true_and]
      by_cases hr : r = r'
      · simp [hr]
      · simp [hr, Ne.symm hr]
    · simp [hp, Ne.symm hp]
  · simp [hb, Ne.symm hb]

theorem State.roworAt_setAllRowor (s : State) (b b' : Buf) (p p' : Panel) (r' : Fin 8) (o : Orient) :
    (s.setAllRowor b p o).roworAt b' p' r' =
      if b' = b ∧ p' = p then o else s.roworAt b' p' r' := by
  simp only [State.roworAt, State.setAllRowor, Vector.get_set_eq, Buf.idx_inj]
  by_cases hb : b = b'
  · subst hb
    simp only [if_true, Vector.get_set_eq, Panel.idx_inj, true_and]
    by_cases hp : p = p'
    · subst hp
      simp [Vector.get_eq_getElem]
    · simp [hp, Ne.symm hp]
  · simp [hb, Ne.symm hb]

/-! ## Animation entry and exit -/

/-- All that the entry of an animation invocation does (R304). -/
theorem State.enterAnimation_spec (s : State) :
    s.enterAnimation =
      { s with
        animSavedHold := s.blankHold, animActive := true, blankHold := true,
        pins := if s.blankHold then s.pins else { s.pins with oeN := true },
        trace := if s.blankHold then s.trace else s.trace ++ [.oeN true] } := by
  rcases Bool.eq_false_or_eq_true s.blankHold with h | h <;>
    simp [State.enterAnimation, State.setBlankHold, State.driveOe, State.drive, Pins.write, h]

/-- All that the exit of an animation invocation does (R305). -/
theorem State.exitAnimation_spec (s : State) (done : Bool) :
    s.exitAnimation done =
      { s with
        swapPending := s.swapPending || done, blankHold := s.animSavedHold, animActive := false,
        pins := { s.pins with oeN := s.blankSeq || s.animSavedHold },
        trace := s.trace ++ [.oeN (s.blankSeq || s.animSavedHold)] } := by
  cases done <;>
    simp [State.exitAnimation, State.requestDeferredSwap, State.setBlankHold, State.driveOe,
      State.drive, Pins.write]

end Sys2Proof.Machine
end

