-- ==== Sys2Proof/Laws/Refresh.lean ====
section
/-! SUPPORT. The refresh step: the pins after its events, the length and the bits of its serial frame, what
its advance can do. -/

namespace Sys2Proof.Machine

open Sys2Proof

/-! ## Events -/

theorem Pins.after_append (p : Pins) (es fs : List PinEvent) :
    p.after (es ++ fs) = (p.after es).after fs := List.foldl_append

theorem protocolOk_append (p : Pins) (es fs : List PinEvent) :
    protocolOk p (es ++ fs) = (protocolOk p es && protocolOk (p.after es) fs) := by
  induction es generalizing p with
  | nil => rfl
  | cons e rest ih => simp [protocolOk, ih, Pins.after, Bool.and_assoc]

theorem sampledBits_append (p : Pins) (es fs : List PinEvent) :
    sampledBits p (es ++ fs) = sampledBits p es ++ sampledBits (p.after es) fs := by
  induction es generalizing p with
  | nil => rfl
  | cons e rest ih => simp [sampledBits, ih, Pins.after]

theorem latchRises_append (p : Pins) (es fs : List PinEvent) :
    latchRises p (es ++ fs) = latchRises p es + latchRises (p.after es) fs := by
  induction es generalizing p with
  | nil => simp [latchRises, Pins.after]
  | cons e rest ih => simp [latchRises, ih, Pins.after, Nat.add_assoc]

/-- One serial bit returns `SCLK` and `SDATA` to 0 and leaves the other pins (R221). -/
theorem Pins.after_clockBit (p : Pins) (bit : Bool) :
    p.after (clockBit bit) = { p with sclk := false, sdata := false } := rfl

/-- Serial bits leave `SCLK` and `SDATA` at 0 and the other pins alone. -/
theorem Pins.after_clockBits (p : Pins) (bits : List Bool) (h : bits ≠ []) :
    p.after (bits.flatMap clockBit) = { p with sclk := false, sdata := false } := by
  induction bits generalizing p with
  | nil => exact absurd rfl h
  | cons bit rest ih =>
    rw [List.flatMap_cons, Pins.after_append, Pins.after_clockBit]
    rcases rest with _ | ⟨b, r⟩
    · rfl
    · rw [ih _ (by simp)]

/-! ## The serial frame -/

theorem LedOrder.length_toList (o : LedOrder) : o.toList.length = 8 := by cases o <;> rfl

theorem ChanOrder.length_toList (o : ChanOrder) : o.toList.length = 3 := by cases o <;> rfl

@[simp] theorem State.length_planeBits (s : State) (w : PlaneWord) : (s.planeBits w).length = 8 := by
  rw [State.planeBits, List.length_map, LedOrder.length_toList]

/-- Element `k` of equal blocks of `m`: element `k mod m` of block `k div m`. -/
theorem getElem?_flatMap_blocks {α β : Type} (l : List α) (f : α → List β) {m : Nat} (hm : 0 < m)
    (hf : ∀ a, (f a).length = m) (k : Nat) :
    (l.flatMap f)[k]? = (l[k / m]?).bind fun a => (f a)[k % m]? := by
  induction l generalizing k with
  | nil => simp
  | cons a rest ih =>
    rw [List.flatMap_cons]
    rcases Nat.lt_or_ge k m with h | h
    · rw [List.getElem?_append_left (by rw [hf]; exact h), Nat.div_eq_of_lt h, Nat.mod_eq_of_lt h]
      rfl
    · rw [List.getElem?_append_right (by rw [hf]; exact h), hf, ih]
      have h1 : k / m = (k - m) / m + 1 := by
        rw [Nat.div_eq_sub_div hm h]
      have h2 : (k - m) % m = k % m := (Nat.mod_eq_sub_mod h).symm
      rw [h1, h2, List.getElem?_cons_succ]

/-- The length of equal blocks. -/
theorem length_flatMap_blocks {α β : Type} (l : List α) (f : α → List β) {m : Nat}
    (hf : ∀ a, (f a).length = m) : (l.flatMap f).length = l.length * m := by
  induction l with
  | nil => simp
  | cons a rest ih => simp [List.flatMap_cons, hf, ih, Nat.add_mul, Nat.add_comm]

@[simp] theorem State.length_panelBits (s : State) (p : Panel) : (s.panelBits p).length = 24 := by
  rw [State.panelBits, length_flatMap_blocks _ _ fun c => s.length_planeBits _,
    ChanOrder.length_toList]

/-- A serial frame has 120 bits (R97). -/
@[simp] theorem State.length_serialFrame (s : State) : s.serialFrame.length = 120 := by
  rw [State.serialFrame, length_flatMap_blocks _ _ s.length_panelBits]
  rfl

theorem State.serialFrame_ne_nil (s : State) : s.serialFrame ≠ [] := by
  intro h
  have := s.length_serialFrame
  rw [h] at this
  simp at this

/-- A bit of the serial frame by its panel, plane and position places (R213). -/
theorem State.serialFrame_getElem? (s : State) (k : Nat) :
    s.serialFrame[k]? = (panelChain[k / 24]?).bind fun p =>
      (s.build.chanOrder.toList[k % 24 / 8]?).bind fun c =>
        (s.build.ledOrder.toList[k % 24 % 8]?).map fun pos =>
          s.serialBit
            (s.fsRead s.displayIndex p (shiftRow (s.panorAt s.displayIndex p) s.row) c) pos := by
  rw [State.serialFrame, getElem?_flatMap_blocks _ _ (by decide) s.length_panelBits]
  congr 1
  funext p
  rw [State.panelBits, getElem?_flatMap_blocks _ _ (by decide) fun c => s.length_planeBits _]
  congr 1
  funext c
  rw [State.planeBits, List.getElem?_map]

/-- The serial frame depends on the build, the DISPLAY buffer and the sequencer alone (R210). -/
theorem State.serialFrame_congr {s t : State} (hb : t.build = s.build) (hf : t.fs = s.fs)
    (hp : t.panor = s.panor) (hd : t.displayIndex = s.displayIndex) (hr : t.row = s.row)
    (hs : t.subCycle = s.subCycle) : t.serialFrame = s.serialFrame := by
  simp only [State.serialFrame, State.panelBits, State.planeBits, State.serialBit, State.fsRead,
    State.panorAt, State.depth, hb, hf, hp, hd, hr, hs]

/-! ## Latch and advance -/

/-- The events of the latch sequence (R225). -/
def State.latchEvents (s : State) : List PinEvent :=
  [.oeN true, .rowsel (rowselOf s.row), .latch true, .latch false, .oeN s.blankHold]

theorem State.latchRow_trace (s : State) : s.latchRow.trace = s.trace ++ s.latchEvents := by
  simp [State.latchRow, State.latchEvents, List.append_assoc]

theorem State.latchRow_pins (s : State) :
    s.latchRow.pins =
      { s.pins with latch := false, oeN := s.blankHold, rowsel := rowselOf s.row } := by
  simp [State.latchRow, Pins.write]

/-- All that an advance can do (R230, R231): the next row; or the next sub-cycle; or the wrap, with the
swap where one is pending. -/
theorem State.advance_cases (s : State) :
    (s.row.val < 7 ∧ s.advance = { s with row := s.row + 1 }) ∨
    (s.row = 7 ∧ s.subCycle < s.depth.levels - 1 ∧
      s.advance = { s with row := 0, subCycle := s.subCycle + 1 }) ∨
    (s.row = 7 ∧ ¬ s.subCycle < s.depth.levels - 1 ∧ s.swapPending = false ∧
      s.advance = { s with row := 0, subCycle := 0 }) ∨
    (s.row = 7 ∧ ¬ s.subCycle < s.depth.levels - 1 ∧ s.swapPending = true ∧
      s.advance = { s with
        row := 0, subCycle := 0, displayIndex := s.animateIndex, animateIndex := s.displayIndex,
        swapPending := false }) := by
  unfold State.advance
  have hrow : ¬ s.row.val < 7 → s.row = 7 := fun h => Fin.ext (by have := s.row.isLt; simp; omega)
  split
  · exact .inl ⟨by assumption, rfl⟩
  · rename_i h
    split
    · exact .inr (.inl ⟨hrow h, by assumption, rfl⟩)
    · rename_i h'
      rcases Bool.eq_false_or_eq_true s.swapPending with hp | hp
      · exact .inr (.inr (.inr ⟨hrow h, h', hp, by simp [State.boundarySwap, hp, State.swap]⟩))
      · exact .inr (.inr (.inl ⟨hrow h, h', hp, by simp [State.boundarySwap, hp]⟩))

/-- An advance writes only the sequencer, the role indices and the pending flag (R210). -/
theorem State.advance_frame (s : State) :
    s.advance = { s with
      row := s.advance.row, subCycle := s.advance.subCycle,
      displayIndex := s.advance.displayIndex, animateIndex := s.advance.animateIndex,
      swapPending := s.advance.swapPending } := by
  rcases s.advance_cases with ⟨_, h⟩ | ⟨_, _, h⟩ | ⟨_, _, _, h⟩ | ⟨_, _, _, h⟩ <;> rw [h]

@[simp] theorem State.advance_trace (s : State) : s.advance.trace = s.trace := by
  rw [s.advance_frame]

@[simp] theorem State.advance_pins (s : State) : s.advance.pins = s.pins := by
  rw [s.advance_frame]

@[simp] theorem State.advance_blankSeq (s : State) : s.advance.blankSeq = s.blankSeq := by
  rw [s.advance_frame]

@[simp] theorem State.advance_blankHold (s : State) : s.advance.blankHold = s.blankHold := by
  rw [s.advance_frame]

@[simp] theorem State.advance_fs (s : State) : s.advance.fs = s.fs := by
  rw [s.advance_frame]

@[simp] theorem State.advance_build (s : State) : s.advance.build = s.build := by
  rw [s.advance_frame]

@[simp] theorem State.advance_panor (s : State) : s.advance.panor = s.panor := by
  rw [s.advance_frame]

@[simp] theorem State.advance_rowor (s : State) : s.advance.rowor = s.rowor := by
  rw [s.advance_frame]

@[simp] theorem State.advance_replies (s : State) : s.advance.replies = s.replies := by
  rw [s.advance_frame]

/-- The state a refresh step goes on in (R210). -/
def State.afterRefresh (s : State) : State := s.clockOut.latchRow.advance

theorem exec_refreshStep (s : State) : exec .refreshStep s = .next s.afterRefresh := rfl

/-- The events of a whole refresh step (R210, R226). -/
def State.refreshEvents (s : State) : List PinEvent := s.serialFrame.flatMap clockBit ++ s.latchEvents

theorem State.afterRefresh_trace (s : State) :
    s.afterRefresh.trace = s.trace ++ s.refreshEvents := by
  rw [State.afterRefresh, State.advance_trace, State.latchRow_trace, State.clockOut_trace,
    State.refreshEvents, List.append_assoc]
  rfl

/-- The pins after a refresh step: the bus idle, the row selected, the output as the host holds it. -/
theorem State.afterRefresh_pins (s : State) :
    s.afterRefresh.pins = ⟨false, false, false, s.blankHold, rowselOf s.row⟩ := by
  have h := Pins.after_clockBits s.pins s.serialFrame s.serialFrame_ne_nil
  rw [Pins.after] at h
  rw [State.afterRefresh, State.advance_pins, State.latchRow_pins, State.clockOut_pins, h]
  rfl

@[simp] theorem State.afterRefresh_blankSeq (s : State) : s.afterRefresh.blankSeq = false := by
  rw [State.afterRefresh, State.advance_blankSeq, State.latchRow_blankSeq]

@[simp] theorem State.afterRefresh_blankHold (s : State) : s.afterRefresh.blankHold = s.blankHold := by
  rw [State.afterRefresh, State.advance_blankHold, State.latchRow_blankHold, State.clockOut_blankHold]

/-- Before it advances, a refresh step has written the pins, the trace and `blankSeq` (R210). -/
theorem State.beforeAdvance_frame (s : State) :
    s.clockOut.latchRow = { s with
      pins := s.clockOut.latchRow.pins, trace := s.clockOut.latchRow.trace, blankSeq := false } := by
  apply State.ext <;> simp only [
    State.clockOut_build, State.clockOut_fs, State.clockOut_panor, State.clockOut_rowor,
    State.clockOut_subCycle, State.clockOut_row, State.clockOut_displayIndex,
    State.clockOut_animateIndex, State.clockOut_swapPending, State.clockOut_blankHold,
    State.clockOut_wide, State.clockOut_tall, State.clockOut_wrap, State.clockOut_gfxPanel,
    State.clockOut_animRegistered, State.clockOut_animPeriod, State.clockOut_animActive,
    State.clockOut_animSavedHold, State.clockOut_replies, State.clockOut_commands,
    State.latchRow_build, State.latchRow_fs, State.latchRow_panor, State.latchRow_rowor,
    State.latchRow_subCycle, State.latchRow_row, State.latchRow_displayIndex,
    State.latchRow_animateIndex, State.latchRow_swapPending, State.latchRow_blankSeq,
    State.latchRow_blankHold, State.latchRow_wide, State.latchRow_tall, State.latchRow_wrap,
    State.latchRow_gfxPanel, State.latchRow_animRegistered, State.latchRow_animPeriod,
    State.latchRow_animActive, State.latchRow_animSavedHold, State.latchRow_replies,
    State.latchRow_commands]

/-- The four outcomes of a refresh step on the sequencer, the roles and the pending flag
(R186, R230, R231); all else it writes are the pins, the trace and `blankSeq`. -/
theorem State.afterRefresh_cases (s : State) :
    (s.row.val < 7 ∧ s.afterRefresh = { s with
      pins := s.afterRefresh.pins, trace := s.afterRefresh.trace, blankSeq := false,
      row := s.row + 1 }) ∨
    (s.row = 7 ∧ s.subCycle < s.depth.levels - 1 ∧ s.afterRefresh = { s with
      pins := s.afterRefresh.pins, trace := s.afterRefresh.trace, blankSeq := false,
      row := 0, subCycle := s.subCycle + 1 }) ∨
    (s.row = 7 ∧ ¬ s.subCycle < s.depth.levels - 1 ∧ s.swapPending = false ∧
      s.afterRefresh = { s with
        pins := s.afterRefresh.pins, trace := s.afterRefresh.trace, blankSeq := false,
        row := 0, subCycle := 0 }) ∨
    (s.row = 7 ∧ ¬ s.subCycle < s.depth.levels - 1 ∧ s.swapPending = true ∧
      s.afterRefresh = { s with
        pins := s.afterRefresh.pins, trace := s.afterRefresh.trace, blankSeq := false,
        row := 0, subCycle := 0, displayIndex := s.animateIndex, animateIndex := s.displayIndex,
        swapPending := false }) := by
  have hp : s.clockOut.latchRow.pins = s.afterRefresh.pins := by
    rw [State.afterRefresh, State.advance_pins]
  have ht : s.clockOut.latchRow.trace = s.afterRefresh.trace := by
    rw [State.afterRefresh, State.advance_trace]
  rw [← hp, ← ht, State.afterRefresh]
  generalize hP : s.clockOut.latchRow.pins = P
  generalize hT : s.clockOut.latchRow.trace = T
  rw [s.beforeAdvance_frame, hP, hT]
  exact State.advance_cases { s with pins := P, trace := T, blankSeq := false }

/-- All that a refresh step may write (R210). -/
theorem State.afterRefresh_frame (s : State) :
    s.afterRefresh = { s with
      pins := s.afterRefresh.pins, trace := s.afterRefresh.trace, blankSeq := false,
      subCycle := s.afterRefresh.subCycle, row := s.afterRefresh.row,
      displayIndex := s.afterRefresh.displayIndex, animateIndex := s.afterRefresh.animateIndex,
      swapPending := s.afterRefresh.swapPending } := by
  generalize hP : s.afterRefresh.pins = P
  generalize hT : s.afterRefresh.trace = T
  rcases s.afterRefresh_cases with ⟨_, h⟩ | ⟨_, _, h⟩ | ⟨_, _, _, h⟩ | ⟨_, _, _, h⟩ <;>
    (rw [hP, hT] at h; rw [h])

/-! ## Events on the bus -/

/-- Serial bits on an idle bus: each is sampled once, nothing is latched, the protocol holds (R221,
R223). -/
theorem clockBits_bus (bits : List Bool) {p : Pins} (hclk : p.sclk = false) :
    sampledBits p (bits.flatMap clockBit) = bits ∧ latchRises p (bits.flatMap clockBit) = 0 ∧
      protocolOk p (bits.flatMap clockBit) = true := by
  induction bits generalizing p with
  | nil => simp [sampledBits, latchRises, protocolOk]
  | cons b bs ih =>
    rw [List.flatMap_cons, sampledBits_append, latchRises_append, protocolOk_append,
      Pins.after_clockBit]
    obtain ⟨h1, h2, h3⟩ := ih (p := { p with sclk := false, sdata := false }) rfl
    rw [h1, h2, h3]
    simp [clockBit, sampledBits, latchRises, protocolOk, eventAllowed, Pins.write, hclk]

/-- The latch sequence on an idle bus: no bit is sampled, one latch, the protocol holds (R223, R225). -/
theorem latchEvents_bus (s : State) {p : Pins} (hclk : p.sclk = false) (hlatch : p.latch = false) :
    sampledBits p s.latchEvents = [] ∧ latchRises p s.latchEvents = 1 ∧
      protocolOk p s.latchEvents = true := by
  simp [State.latchEvents, sampledBits, latchRises, protocolOk, eventAllowed, Pins.write, hclk, hlatch]

/-! ## Runs of commands -/

theorem execAll_append {cs ds : List Instr} {s t : State} (h : execAll cs s = .next t) :
    execAll (cs ++ ds) s = execAll ds t := by
  induction cs generalizing s with
  | nil =>
    injection h with h
    subst h
    rfl
  | cons i rest ih =>
    simp only [execAll, List.cons_append] at h ⊢
    split at h
    · exact ih h
    · cases h
    · cases h

theorem execAll_refresh_succ (n : Nat) (s : State) :
    execAll (refreshCommands (n + 1)) s = execAll (refreshCommands n) s.afterRefresh := rfl

end Sys2Proof.Machine
end

