-- ==== Sys2Proof/Laws/Chain.lean ====
section
/-! SUPPORT. The observer of R45: runs over a trace, and one serial bit's effect on the shift stages. -/

namespace Sys2Proof.Machine

open Sys2Proof

theorem Chain.run_append (c : Chain) (es fs : List PinEvent) :
    c.run (es ++ fs) = (c.run es).run fs := List.foldl_append

/-- The pins the chain sees are the block's pins (R41, R45). -/
theorem Chain.run_pins (c : Chain) (es : List PinEvent) : (c.run es).pins = c.pins.after es := by
  induction es generalizing c with
  | nil => rfl
  | cons e rest ih => exact (ih (c.event e)).trans rfl

/-- One serial bit on an idle bus shifts the chain by that bit and leaves the output register (R45). -/
theorem Chain.run_clockBit {c : Chain} (hclk : c.pins.sclk = false) (hlatch : c.pins.latch = false)
    (b : Bool) :
    (c.run (clockBit b)).stages = c.stages.shiftConcat b ∧ (c.run (clockBit b)).outreg = c.outreg := by
  simp [clockBit, Chain.run, Chain.event, Pins.write, hclk, hlatch]

/-- The latch sequence copies the stages to the output register (R45). -/
theorem Chain.run_latchEvents {c : Chain} (s : State) (hclk : c.pins.sclk = false)
    (hlatch : c.pins.latch = false) :
    (c.run s.latchEvents).outreg = c.stages ∧ (c.run s.latchEvents).stages = c.stages := by
  simp [State.latchEvents, Chain.run, Chain.event, Pins.write, hclk, hlatch]

end Sys2Proof.Machine
end

