-- ==== Sys2Proof/Laws/Coordinate.lean ====
section
/-! SUPPORT. The Coordinate Adapter: when a draw has a target and which one, the bands, and the width of
what the neighbour query answers. -/

namespace Sys2Proof.Machine

open Sys2Proof

/-! ## The canvas -/

theorem State.canvasWidth_int (s : State) : (s.canvasWidth : Int) = if s.wide then 32 else 8 := by
  unfold State.canvasWidth State.isWide
  split <;> rfl

theorem State.canvasHeight_int (s : State) :
    (s.canvasHeight : Int) = if s.wide ∧ s.tall then 16 else 8 := by
  unfold State.canvasHeight State.isTall
  cases s.wide <;> cases s.tall <;> rfl

/-- A draw is dropped exactly outside the canvas, after the wrap (R260, R262). -/
theorem State.drawTarget_eq_none_iff (s : State) (x y : Int) :
    s.drawTarget x y = none ↔
      (s.wrapX x < 0 ∨ s.canvasWidth ≤ s.wrapX x) ∨ (y < 0 ∨ s.canvasHeight ≤ y) := by
  unfold State.drawTarget
  dsimp only
  split_ifs with h1 h2
  · simp [h1]
  · simp [h2]
  · simp only [false_iff, not_or]
    exact ⟨not_or.1 h1, not_or.1 h2⟩

/-- Inside the canvas the target is the place the mode gives (R260). -/
theorem State.drawTarget_inside {s : State} {x y : Int} {cx cy : Nat} (hx : s.wrapX x = cx)
    (hy : y = cy) (hcx : cx < s.canvasWidth) (hcy : cy < s.canvasHeight) :
    s.drawTarget x y = some (s.canvasPlace cx cy) := by
  unfold State.drawTarget
  dsimp only
  rw [hx, hy, if_neg (by omega), if_neg (by omega)]
  simp

/-- The band of a column (R264). -/
theorem bandOf_cases (x : Nat) :
    (x < 8 → bandOf x = .left) ∧ (8 ≤ x → x < 16 → bandOf x = .front) ∧
    (16 ≤ x → x < 24 → bandOf x = .right) ∧ (24 ≤ x → bandOf x = .back) := by
  refine ⟨?_, ?_, ?_, ?_⟩ <;> intros <;> unfold bandOf <;> split_ifs <;> first | rfl | omega

@[simp] theorem mod8_val (n : Nat) : (mod8 n).val = n % 8 := rfl

/-! ## The neighbour query -/

theorem averageLevel_masked {d : Depth} {a b : Level} (ha : a &&& d.mask = a)
    (hb : b &&& d.mask = b) : averageLevel a b &&& d.mask = averageLevel a b := by
  revert a b
  cases d <;> decide

theorem blendCorner_masked {d : Depth} {g a b : Pixel} (hg : g.masked d) (ha : a.masked d)
    (hb : b.masked d) : (blendCorner g a b).masked d := by
  unfold blendCorner
  split_ifs <;> try assumption
  intro c
  cases c
  · exact averageLevel_masked (ha .red) (hb .red)
  · exact averageLevel_masked (ha .green) (hb .green)
  · exact averageLevel_masked (ha .blue) (hb .blue)

/-- What the query answers has only its `D` bits. -/
theorem State.topNeighbor_masked (s : State) (x y : Int) (bg : ColorWord) :
    (s.topNeighbor x y bg).masked s.depth := by
  have hg := unpackColor_masked s.depth bg
  have pick : ∀ l : List Pixel, (∀ p ∈ l, p.masked s.depth) →
      (chooseNeighbor (unpackColor s.depth bg) l).masked s.depth := by
    intro l hl
    rcases l with _ | ⟨a, _ | ⟨b, r⟩⟩
    · exact hg
    · exact hl a (by simp)
    · exact blendCorner_masked hg (hl a (by simp)) (hl b (by simp))
  unfold State.topNeighbor
  dsimp only
  split_ifs
  · exact hg
  · refine pick _ fun p hp => ?_
    simp only [State.topNeighbors, List.mem_append] at hp
    rcases hp with ((hp | hp) | hp) | hp <;> split_ifs at hp <;>
      simp only [List.mem_singleton, List.not_mem_nil] at hp <;> rw [hp] <;>
      exact State.readLed_masked _ _ _ _ _

end Sys2Proof.Machine
end

