-- ==== Sys2Proof/Laws/Encoding.lean ====
section
/-! SUPPORT. The bytes and fields of a command word put together from bytes, and how an encoded operand
reads back. -/

namespace Sys2Proof

theorem getLsbD_putByte (b : BitVec 8) (k i : Nat) (hk : k < 8) :
    (putByte b k).getLsbD i = (decide (8 * k ≤ i) && b.getLsbD (i - 8 * k)) := by
  rw [putByte, BitVec.getLsbD_shiftLeft, BitVec.getLsbD_setWidth]
  by_cases h : 8 * k ≤ i
  · by_cases hi : i - 8 * k < 8
    · simp [h, show i < 64 by omega, show ¬ i < 8 * k by omega, show i - 8 * k < 64 by omega]
    · simp [h, BitVec.getLsbD_of_ge b (i - 8 * k) (by omega)]
  · simp [h, show i < 8 * k by omega]

/-- The bits of a word from its bytes (R101). -/
theorem getLsbD_ofBytes (b7 b6 b5 b4 b3 b2 b1 b0 : BitVec 8) (i : Nat) :
    (ofBytes b7 b6 b5 b4 b3 b2 b1 b0).getLsbD i =
      if i < 8 then b0.getLsbD i else if i < 16 then b1.getLsbD (i - 8)
      else if i < 24 then b2.getLsbD (i - 16) else if i < 32 then b3.getLsbD (i - 24)
      else if i < 40 then b4.getLsbD (i - 32) else if i < 48 then b5.getLsbD (i - 40)
      else if i < 56 then b6.getLsbD (i - 48) else b7.getLsbD (i - 56) := by
  have out : ∀ (b : BitVec 8) (j : Nat), 8 ≤ j → b.getLsbD j = false :=
    fun b j h => BitVec.getLsbD_of_ge b j h
  simp only [ofBytes, BitVec.getLsbD_or, getLsbD_putByte _ _ _ (by decide : 7 < 8),
    getLsbD_putByte _ _ _ (by decide : 6 < 8), getLsbD_putByte _ _ _ (by decide : 5 < 8),
    getLsbD_putByte _ _ _ (by decide : 4 < 8), getLsbD_putByte _ _ _ (by decide : 3 < 8),
    getLsbD_putByte _ _ _ (by decide : 2 < 8), getLsbD_putByte _ _ _ (by decide : 1 < 8),
    getLsbD_putByte _ _ _ (by decide : 0 < 8)]
  simp only [Nat.reduceMul, Nat.sub_zero]
  split_ifs <;>
    simp (disch := omega) only [out, decide_eq_true, decide_eq_false, Bool.and_false,
      Bool.false_and, Bool.true_and, Bool.or_false, Bool.false_or]

/-! ## Bytes and slices of a word from bytes -/

/-- Two bit vectors of one width with the same bits below it are equal; stated for the slices here. -/
theorem slice_eq {w : CommandWord} {start n : Nat} {v : BitVec n}
    (h : ∀ i, i < n → w.getLsbD (start + i) = v.getLsbD i) : w.extractLsb' start n = v := by
  apply BitVec.eq_of_getLsbD_eq
  intro i hi
  rw [BitVec.getLsbD_extractLsb', h i hi]
  simp [hi]

section
variable (b7 b6 b5 b4 b3 b2 b1 b0 : BitVec 8)

@[simp] theorem byteAt7_ofBytes : byteAt (ofBytes b7 b6 b5 b4 b3 b2 b1 b0) 7 = b7 :=
  slice_eq fun i hi => by rw [getLsbD_ofBytes]; split_ifs <;> first | omega | (congr 1; omega)

@[simp] theorem byteAt6_ofBytes : byteAt (ofBytes b7 b6 b5 b4 b3 b2 b1 b0) 6 = b6 :=
  slice_eq fun i hi => by rw [getLsbD_ofBytes]; split_ifs <;> first | omega | (congr 1; omega)

@[simp] theorem byteAt5_ofBytes : byteAt (ofBytes b7 b6 b5 b4 b3 b2 b1 b0) 5 = b5 :=
  slice_eq fun i hi => by rw [getLsbD_ofBytes]; split_ifs <;> first | omega | (congr 1; omega)

@[simp] theorem byteAt4_ofBytes : byteAt (ofBytes b7 b6 b5 b4 b3 b2 b1 b0) 4 = b4 :=
  slice_eq fun i hi => by rw [getLsbD_ofBytes]; split_ifs <;> first | omega | (congr 1; omega)

@[simp] theorem byteAt3_ofBytes : byteAt (ofBytes b7 b6 b5 b4 b3 b2 b1 b0) 3 = b3 :=
  slice_eq fun i hi => by rw [getLsbD_ofBytes]; split_ifs <;> first | omega | (congr 1; omega)

@[simp] theorem byteAt2_ofBytes : byteAt (ofBytes b7 b6 b5 b4 b3 b2 b1 b0) 2 = b2 :=
  slice_eq fun i hi => by rw [getLsbD_ofBytes]; split_ifs <;> first | omega | (congr 1; omega)

@[simp] theorem byteAt1_ofBytes : byteAt (ofBytes b7 b6 b5 b4 b3 b2 b1 b0) 1 = b1 :=
  slice_eq fun i hi => by rw [getLsbD_ofBytes]; split_ifs <;> first | omega | (congr 1; omega)

@[simp] theorem byteAt0_ofBytes : byteAt (ofBytes b7 b6 b5 b4 b3 b2 b1 b0) 0 = b0 :=
  slice_eq fun i hi => by rw [getLsbD_ofBytes]; split_ifs <;> first | omega | (congr 1; omega)

end

/-- The bits of a 16-bit operand in its two bytes (R101). -/
theorem getLsbD_hiByte (v : BitVec 16) (i : Nat) (hi : i < 8) :
    (hiByte v).getLsbD i = v.getLsbD (8 + i) := by
  rw [hiByte, BitVec.getLsbD_extractLsb']
  simp [hi]

theorem getLsbD_loByte (v : BitVec 16) (i : Nat) (hi : i < 8) :
    (loByte v).getLsbD i = v.getLsbD i := by
  rw [loByte, BitVec.getLsbD_extractLsb']
  simp [hi]

/-- The 16-bit operand in bytes 1 and 0 (R101). -/
@[simp] theorem slice0_ofBytes (b7 b6 b5 b4 b3 b2 : BitVec 8) (v : BitVec 16) :
    (ofBytes b7 b6 b5 b4 b3 b2 (hiByte v) (loByte v)).extractLsb' 0 16 = v :=
  slice_eq fun i hi => by
    rw [getLsbD_ofBytes]
    split_ifs
    · rw [getLsbD_loByte _ _ (by omega), Nat.zero_add]
    · rw [getLsbD_hiByte _ _ (by omega)]; congr 1; omega
    all_goals omega

/-- The 16-bit operand in bytes 3 and 2 (R101). -/
@[simp] theorem slice16_ofBytes (b7 b6 b5 b4 b1 b0 : BitVec 8) (v : BitVec 16) :
    (ofBytes b7 b6 b5 b4 (hiByte v) (loByte v) b1 b0).extractLsb' 16 16 = v :=
  slice_eq fun i hi => by
    rw [getLsbD_ofBytes]
    split_ifs
    · omega
    · omega
    · rw [getLsbD_loByte _ _ (by omega)]; congr 1; omega
    · rw [getLsbD_hiByte _ _ (by omega)]; congr 1; omega
    all_goals omega

/-- The 16-bit operand in bytes 5 and 4 (R101). -/
@[simp] theorem slice32_ofBytes (b7 b6 b3 b2 b1 b0 : BitVec 8) (v : BitVec 16) :
    (ofBytes b7 b6 (hiByte v) (loByte v) b3 b2 b1 b0).extractLsb' 32 16 = v :=
  slice_eq fun i hi => by
    rw [getLsbD_ofBytes]
    split_ifs
    · omega
    · omega
    · omega
    · omega
    · rw [getLsbD_loByte _ _ (by omega)]; congr 1; omega
    · rw [getLsbD_hiByte _ _ (by omega)]; congr 1; omega
    all_goals omega

/-- The 32-bit operand in bytes 3 to 0 (R101). -/
@[simp] theorem slicePeriod_ofBytes (b7 b6 b5 b4 : BitVec 8) (v : BitVec 32) :
    (ofBytes b7 b6 b5 b4 (v.extractLsb' 24 8) (v.extractLsb' 16 8) (v.extractLsb' 8 8)
      (v.extractLsb' 0 8)).extractLsb' 0 32 = v :=
  slice_eq fun i hi => by
    rw [getLsbD_ofBytes]
    simp only [BitVec.getLsbD_extractLsb']
    split_ifs <;> first
      | omega
      | (rw [decide_eq_true (by omega), Bool.true_and]; congr 1; omega)

/-! ## Operands: what is encoded reads back, and what reads was encoded (R102) -/

@[simp] theorem bufOf_code (b : Buf) : bufOf b.code = .ok b := by cases b <;> rfl

@[simp] theorem roleOf_code (q : Role) : roleOf q.code = .ok q := by cases q <;> rfl

@[simp] theorem orientOf_code (o : Orient) : orientOf o.code = .ok o := by cases o <;> rfl

@[simp] theorem panelOf_code (p : Panel) : panelOf p.code = .ok p := by cases p <;> rfl

@[simp] theorem presentOf_code (f : Bool) : presentOf (flagCode f) = .ok f := by cases f <;> rfl

@[simp] theorem oneFlag_code (f : Bool) : oneFlag (flagCode f) = .ok f := by cases f <;> rfl

@[simp] theorem rowOf_code (i : Fin 8) : rowOf (indexCode i) = .ok i := by revert i; decide

@[simp] theorem idxOf_code (i : Fin 8) : idxOf (indexCode i) = .ok i := by revert i; decide

@[simp] theorem threeFlags_code (f g h : Bool) :
    threeFlags (threeFlagsCode f g h) = .ok (f, g, h) := by
  cases f <;> cases g <;> cases h <;> rfl

@[simp] theorem mustBeZero_zero {n : Nat} : mustBeZero (0 : BitVec n) = .ok () := by
  simp [mustBeZero]

theorem bufOf_ok {x : BitVec 8} {b : Buf} (h : bufOf x = .ok b) : x = b.code := by
  unfold bufOf at h
  split_ifs at h <;> cases h <;> assumption

theorem roleOf_ok {x : BitVec 8} {q : Role} (h : roleOf x = .ok q) : x = q.code := by
  unfold roleOf at h
  split_ifs at h <;> cases h <;> assumption

theorem orientOf_ok {x : BitVec 8} {o : Orient} (h : orientOf x = .ok o) : x = o.code := by
  unfold orientOf at h
  split_ifs at h <;> cases h <;> assumption

theorem panelOf_ok {x : BitVec 8} {p : Panel} (h : panelOf x = .ok p) : x = p.code := by
  unfold panelOf at h
  split_ifs at h <;> cases h <;> assumption

theorem presentOf_ok {x : BitVec 8} {f : Bool} (h : presentOf x = .ok f) : x = flagCode f := by
  unfold presentOf at h
  split_ifs at h <;> cases h <;> assumption

theorem oneFlag_ok {x : BitVec 8} {f : Bool} (h : oneFlag x = .ok f) : x = flagCode f := by
  unfold oneFlag at h
  split_ifs at h <;> cases h <;> assumption

theorem rowOf_ok {x : BitVec 8} {i : Fin 8} (h : rowOf x = .ok i) : x = indexCode i := by
  unfold rowOf at h
  split_ifs at h
  cases h
  simp [indexCode]

theorem idxOf_ok {x : BitVec 8} {i : Fin 8} (h : idxOf x = .ok i) : x = indexCode i := by
  unfold idxOf at h
  split_ifs at h
  cases h
  simp [indexCode]

theorem threeFlags_ok {x : BitVec 8} {f : Bool × Bool × Bool} (h : threeFlags x = .ok f) :
    x = threeFlagsCode f.1 f.2.1 f.2.2 := by
  unfold threeFlags at h
  split_ifs at h
  cases h
  revert x
  decide

theorem mustBeZero_ok {n : Nat} {x : BitVec n} {u : Unit} (h : mustBeZero x = .ok u) : x = 0 := by
  unfold mustBeZero at h
  split_ifs at h
  assumption

/-- The decoder goes on exactly when the field before it was legal. -/
theorem decode_bind_ok {α β : Type} {x : Except Illegal α} {f : α → Except Illegal β} {b : β}
    (h : (x >>= f) = .ok b) : ∃ a, x = .ok a ∧ f a = .ok b := by
  cases x with
  | ok a => exact ⟨a, rfl, h⟩
  | error e => cases h

/-! ## A word is its eight bytes (R101) -/

theorem ofBytes_byteAt (w : CommandWord) :
    ofBytes (byteAt w 7) (byteAt w 6) (byteAt w 5) (byteAt w 4) (byteAt w 3) (byteAt w 2) (byteAt w 1)
      (byteAt w 0) = w := by
  apply BitVec.eq_of_getLsbD_eq
  intro i hi
  rw [getLsbD_ofBytes]
  simp only [byteAt, BitVec.getLsbD_extractLsb']
  split_ifs <;> simp (disch := omega) only [decide_eq_true, Bool.true_and] <;> congr 1 <;> omega

/-- A byte inside a slice of zeros is zero. -/
theorem byteAt_eq_zero {w : CommandWord} {start n k : Nat} (h : w.extractLsb' start n = 0)
    (h1 : start ≤ 8 * k) (h2 : 8 * k + 8 ≤ start + n) : byteAt w k = 0 := by
  apply slice_eq
  intro i hi
  have := congrArg (fun v => v.getLsbD (8 * k + i - start)) h
  simp only [BitVec.getLsbD_extractLsb'] at this
  rw [decide_eq_true (by omega)] at this
  simpa [show start + (8 * k + i - start) = 8 * k + i by omega] using this

/-- A slice of whole bytes is zero when its bytes are. -/
theorem slice_eq_zero {w : CommandWord} (start n : Nat)
    (h : ∀ k, start ≤ 8 * k → 8 * k + 8 ≤ start + n → byteAt w k = 0) (h1 : start % 8 = 0)
    (h2 : n % 8 = 0) : w.extractLsb' start n = 0 := by
  apply slice_eq
  intro i hi
  have := congrArg (fun v => v.getLsbD ((start + i) % 8))
    (h ((start + i) / 8) (by omega) (by omega))
  simp only [byteAt, BitVec.getLsbD_extractLsb'] at this
  rw [decide_eq_true (by omega), Bool.true_and,
    show 8 * ((start + i) / 8) + (start + i) % 8 = start + i by omega] at this
  simpa using this

theorem hiByte_slice (w : CommandWord) (k : Nat) :
    hiByte (w.extractLsb' (8 * k) 16) = byteAt w (k + 1) := by
  apply Eq.symm
  apply slice_eq
  intro i hi
  rw [getLsbD_hiByte _ _ hi, BitVec.getLsbD_extractLsb', decide_eq_true (by omega), Bool.true_and]
  congr 1
  omega

theorem loByte_slice (w : CommandWord) (k : Nat) :
    loByte (w.extractLsb' (8 * k) 16) = byteAt w k := by
  apply Eq.symm
  apply slice_eq
  intro i hi
  rw [getLsbD_loByte _ _ hi, BitVec.getLsbD_extractLsb', decide_eq_true (by omega), Bool.true_and]

/-- A byte of the 32-bit operand in bytes 3 to 0. -/
theorem byte_of_low32 (w : CommandWord) (k : Nat) (hk : k < 4) :
    (w.extractLsb' 0 32).extractLsb' (8 * k) 8 = byteAt w k := by
  apply Eq.symm
  apply slice_eq
  intro i hi
  simp only [BitVec.getLsbD_extractLsb']
  rw [decide_eq_true (by omega), decide_eq_true (by omega)]
  simp

theorem byteAt_and (a b : CommandWord) (k : Nat) : byteAt (a &&& b) k = byteAt a k &&& byteAt b k := by
  apply BitVec.eq_of_getLsbD_eq
  intro i hi
  simp [byteAt, BitVec.getLsbD_and, hi]

end Sys2Proof
end

