-- ==== Sys2Proof/Laws/PerInstr.lean ====
section
/-! SUPPORT. Facts stated for every command, one lemma per constructor. `OwnRow`: the word of a command is
selected by the row of the opcode map (R106) that carries the command's mnemonic. -/

namespace Sys2Proof.Laws

open Sys2Proof

/-- Bytewise `and` of a word from bytes (R101). -/
theorem ofBytes_and {m p : CommandWord} {b7 b6 b5 b4 b3 b2 b1 b0 : BitVec 8}
    (h7 : b7 &&& byteAt m 7 = byteAt p 7) (h6 : b6 &&& byteAt m 6 = byteAt p 6)
    (h5 : b5 &&& byteAt m 5 = byteAt p 5) (h4 : b4 &&& byteAt m 4 = byteAt p 4)
    (h3 : b3 &&& byteAt m 3 = byteAt p 3) (h2 : b2 &&& byteAt m 2 = byteAt p 2)
    (h1 : b1 &&& byteAt m 1 = byteAt p 1) (h0 : b0 &&& byteAt m 0 = byteAt p 0) :
    ofBytes b7 b6 b5 b4 b3 b2 b1 b0 &&& m = p := by
  rw [← ofBytes_byteAt (_ &&& m), ← ofBytes_byteAt p]
  simp only [byteAt_and, byteAt7_ofBytes, byteAt6_ofBytes, byteAt5_ofBytes, byteAt4_ofBytes,
    byteAt3_ofBytes, byteAt2_ofBytes, byteAt1_ofBytes, byteAt0_ofBytes, h7, h6, h5, h4, h3, h2, h1, h0]

theorem and_zero (b : BitVec 8) : b &&& 0 = 0 := by simp

theorem indexCode_masked (i : Fin 8) : indexCode i &&& 0xF8 = 0 := by revert i; decide

theorem bufCode_masked (b : Buf) : b.code &&& 0xFE = 0 := by cases b <;> decide

theorem roleCode_masked (q : Role) : q.code &&& 0xFE = 0 := by cases q <;> decide

theorem orientCode_masked (o : Orient) : o.code &&& 0xFE = 0 := by cases o <;> decide

theorem flagCode_masked (f : Bool) : flagCode f &&& 0xFE = 0 := by cases f <;> decide

theorem threeFlagsCode_masked (f g h : Bool) : threeFlagsCode f g h &&& 0xF8 = 0 := by
  revert f g h; decide

theorem panelCode_masked (p : Panel) : p.code &&& 0xF8 = 0 := by cases p <;> decide

theorem panelCode_le (p : Panel) : p.code.toNat ≤ 4 := by cases p <;> decide

/-- A row without a panel field selects a word by its mask alone (R106). -/
theorem selects_plain {r : OpcodeRow} {w : CommandWord} (h : w &&& r.mask = r.pattern)
    (hp : r.hasPanel = false) : r.selects w = true := by
  simp [OpcodeRow.selects, h, hp]

/-- A row with a panel field selects a word by its mask and a panel of at most 4 (R106). -/
theorem selects_panel {r : OpcodeRow} {w : CommandWord} (h : w &&& r.mask = r.pattern)
    (hp : (byteAt w 5).toNat ≤ 4) : r.selects w = true := by
  have : (w.extractLsb' 40 8).toNat ≤ 4 := hp
  simp only [OpcodeRow.selects, h, beq_self_eq_true, this, decide_true, Bool.or_true, Bool.and_true]

/-- The word of the command is selected by the row with its mnemonic. -/
def OwnRow.Statement (i : Instr) : Prop :=
  ∃ r ∈ opcodeTable, r.mnemonic = i.mnemonic ∧ r.selects (encode i) = true

theorem OwnRow.nop : OwnRow.Statement .nop :=
  ⟨opcodeTable[0], by decide, rfl,
    selects_plain
      (ofBytes_and rfl rfl rfl rfl rfl rfl rfl rfl) rfl⟩

theorem OwnRow.setPanelOrient (buf : Buf) (panel : Panel) (orient : Orient) :
    OwnRow.Statement (.setPanelOrient buf panel orient) :=
  ⟨opcodeTable[1], by decide, rfl,
    selects_panel
      (ofBytes_and rfl (bufCode_masked _) (panelCode_masked _) rfl (orientCode_masked _) rfl rfl rfl)
      (by rw [encode, byteAt5_ofBytes]; exact panelCode_le _)⟩

theorem OwnRow.setRowOrient (buf : Buf) (panel : Panel) (row : Fin 8) (orient : Orient) :
    OwnRow.Statement (.setRowOrient buf panel row orient) :=
  ⟨opcodeTable[2], by decide, rfl,
    selects_panel
      (ofBytes_and rfl (bufCode_masked _) (panelCode_masked _) (indexCode_masked _) (orientCode_masked _) rfl rfl rfl)
      (by rw [encode, byteAt5_ofBytes]; exact panelCode_le _)⟩

theorem OwnRow.isOrientedUp (buf : Buf) (panel : Panel) (row : Fin 8) :
    OwnRow.Statement (.isOrientedUp buf panel row) :=
  ⟨opcodeTable[3], by decide, rfl,
    selects_panel
      (ofBytes_and rfl (bufCode_masked _) (panelCode_masked _) (indexCode_masked _) rfl rfl rfl rfl)
      (by rw [encode, byteAt5_ofBytes]; exact panelCode_le _)⟩

theorem OwnRow.setMode (wide tall wrap : Bool) : OwnRow.Statement (.setMode wide tall wrap) :=
  ⟨opcodeTable[4], by decide, rfl,
    selects_plain
      (ofBytes_and rfl rfl rfl rfl rfl rfl rfl (threeFlagsCode_masked _ _ _)) rfl⟩

theorem OwnRow.setGfxPanel (panel : Panel) : OwnRow.Statement (.setGfxPanel panel) :=
  ⟨opcodeTable[5], by decide, rfl,
    selects_panel
      (ofBytes_and rfl rfl (panelCode_masked _) rfl rfl rfl rfl rfl)
      (by rw [encode, byteAt5_ofBytes]; exact panelCode_le _)⟩

theorem OwnRow.setLedPixel (role : Role) (panel : Panel) (row idx : Fin 8) (r g b : BitVec 8) :
    OwnRow.Statement (.setLedPixel role panel row idx r g b) :=
  ⟨opcodeTable[6], by decide, rfl,
    selects_panel
      (ofBytes_and rfl (roleCode_masked _) (panelCode_masked _) (indexCode_masked _) (indexCode_masked _) (and_zero _) (and_zero _) (and_zero _))
      (by rw [encode, byteAt5_ofBytes]; exact panelCode_le _)⟩

theorem OwnRow.setLedColor (role : Role) (panel : Panel) (row idx : Fin 8) (color : ColorWord) :
    OwnRow.Statement (.setLedColor role panel row idx color) :=
  ⟨opcodeTable[7], by decide, rfl,
    selects_panel
      (ofBytes_and rfl (roleCode_masked _) (panelCode_masked _) (indexCode_masked _) (indexCode_masked _) rfl (and_zero _) (and_zero _))
      (by rw [encode, byteAt5_ofBytes]; exact panelCode_le _)⟩

theorem OwnRow.getLed (role : Role) (panel : Panel) (row idx : Fin 8) :
    OwnRow.Statement (.getLed role panel row idx) :=
  ⟨opcodeTable[8], by decide, rfl,
    selects_panel
      (ofBytes_and rfl (roleCode_masked _) (panelCode_masked _) (indexCode_masked _) (indexCode_masked _) rfl rfl rfl)
      (by rw [encode, byteAt5_ofBytes]; exact panelCode_le _)⟩

theorem OwnRow.getRow (role : Role) (panel : Panel) (row : Fin 8) :
    OwnRow.Statement (.getRow role panel row) :=
  ⟨opcodeTable[9], by decide, rfl,
    selects_panel
      (ofBytes_and rfl (roleCode_masked _) (panelCode_masked _) (indexCode_masked _) rfl rfl rfl rfl)
      (by rw [encode, byteAt5_ofBytes]; exact panelCode_le _)⟩

theorem OwnRow.getShiftRow (role : Role) (panel : Panel) (row : Fin 8) :
    OwnRow.Statement (.getShiftRow role panel row) :=
  ⟨opcodeTable[10], by decide, rfl,
    selects_panel
      (ofBytes_and rfl (roleCode_masked _) (panelCode_masked _) (indexCode_masked _) rfl rfl rfl rfl)
      (by rw [encode, byteAt5_ofBytes]; exact panelCode_le _)⟩

theorem OwnRow.requestSwap (immediate : Bool) : OwnRow.Statement (.requestSwap immediate) :=
  ⟨opcodeTable[11], by decide, rfl,
    selects_plain
      (ofBytes_and rfl rfl rfl rfl rfl rfl rfl (flagCode_masked _)) rfl⟩

theorem OwnRow.setBlank (on : Bool) : OwnRow.Statement (.setBlank on) :=
  ⟨opcodeTable[12], by decide, rfl,
    selects_plain
      (ofBytes_and rfl rfl rfl rfl rfl rfl rfl (flagCode_masked _)) rfl⟩

theorem OwnRow.drawPixel (x y : BitVec 16) (color : ColorWord) :
    OwnRow.Statement (.drawPixel x y color) :=
  ⟨opcodeTable[13], by decide, rfl,
    selects_plain
      (ofBytes_and rfl rfl (and_zero _) (and_zero _) (and_zero _) (and_zero _) (and_zero _) (and_zero _)) rfl⟩

theorem OwnRow.getTopNeighbor (x y : BitVec 16) (bg : ColorWord) :
    OwnRow.Statement (.getTopNeighbor x y bg) :=
  ⟨opcodeTable[14], by decide, rfl,
    selects_plain
      (ofBytes_and rfl rfl (and_zero _) (and_zero _) (and_zero _) (and_zero _) (and_zero _) (and_zero _)) rfl⟩

theorem OwnRow.animRegister (present : Bool) (period : BitVec 32) :
    OwnRow.Statement (.animRegister present period) :=
  ⟨opcodeTable[15], by decide, rfl,
    selects_plain
      (ofBytes_and rfl rfl rfl (flagCode_masked _) (and_zero _) (and_zero _) (and_zero _) (and_zero _)) rfl⟩

theorem OwnRow.animEnter : OwnRow.Statement .animEnter :=
  ⟨opcodeTable[16], by decide, rfl,
    selects_plain
      (ofBytes_and rfl rfl rfl rfl rfl rfl rfl rfl) rfl⟩

theorem OwnRow.animExit (done : Bool) : OwnRow.Statement (.animExit done) :=
  ⟨opcodeTable[17], by decide, rfl,
    selects_plain
      (ofBytes_and rfl rfl rfl rfl rfl rfl rfl (flagCode_masked _)) rfl⟩

theorem OwnRow.refreshStep : OwnRow.Statement .refreshStep :=
  ⟨opcodeTable[18], by decide, rfl,
    selects_plain
      (ofBytes_and rfl rfl rfl rfl rfl rfl rfl rfl) rfl⟩

theorem OwnRow.pack (r g b : BitVec 8) : OwnRow.Statement (.pack r g b) :=
  ⟨opcodeTable[19], by decide, rfl,
    selects_plain
      (ofBytes_and rfl rfl rfl rfl rfl (and_zero _) (and_zero _) (and_zero _)) rfl⟩

theorem OwnRow.unpack (color : ColorWord) : OwnRow.Statement (.unpack color) :=
  ⟨opcodeTable[20], by decide, rfl,
    selects_plain
      (ofBytes_and rfl rfl rfl rfl rfl rfl (and_zero _) (and_zero _)) rfl⟩

theorem OwnRow.pixelNew (r g b : BitVec 8) : OwnRow.Statement (.pixelNew r g b) :=
  ⟨opcodeTable[21], by decide, rfl,
    selects_plain
      (ofBytes_and rfl rfl rfl rfl rfl (and_zero _) (and_zero _) (and_zero _)) rfl⟩

theorem OwnRow.pixelEq (r1 g1 b1 r2 g2 b2 : BitVec 8) : OwnRow.Statement (.pixelEq r1 g1 b1 r2 g2 b2) :=
  ⟨opcodeTable[22], by decide, rfl,
    selects_plain
      (ofBytes_and rfl rfl (and_zero _) (and_zero _) (and_zero _) (and_zero _) (and_zero _) (and_zero _)) rfl⟩

end Sys2Proof.Laws
end

