-- ==== Sys2Proof/Laws/Schedule.lean ====
section
/-! SUPPORT. The dimming schedule: the number of sub-cycles in which a level is on. -/

namespace Sys2Proof

/-- Counting the 1 bits below `n` one by one. -/
theorem length_filter_getLsbD (w : BitVec 16) (n : Nat) :
    ((List.range n).filter fun i => w.getLsbD i).length = popcountBelow w n := by
  induction n with
  | zero => rfl
  | succ n ih =>
    rw [List.range_succ, List.filter_append, List.length_append, ih]
    cases h : w.getLsbD n <;> simp [popcountBelow, h]

/-- R201 within the sub-cycles of the build: an entry of a legal table has as many 1 bits below `N` as its
number. -/
theorem Schedule.popcount_entry {t : Schedule} (h : t.wf = true) {v : Level}
    (hv : v.toNat < t.depth.levels) : popcountBelow (t.entry v) t.depth.levels = v.toNat := by
  simp only [Schedule.wf, List.all_eq_true, List.mem_range, beq_iff_eq] at h
  have hall := h v.toNat hv
  rw [BitVec.ofNat_toNat, BitVec.setWidth_eq] at hall
  cases t with
  | four t => exact hall
  | two t =>
    rw [← hall]
    have high : ∀ i, 4 ≤ i → ((Schedule.two t).entry v).getLsbD i = false := by
      intro i hi
      simp only [Schedule.entry, BitVec.getLsbD_setWidth]
      rw [BitVec.getLsbD_of_ge _ _ hi, Bool.and_false]
    simp (disch := omega) only [Schedule.depth, Depth.levels, popcountBelow, high, Bool.toNat_false,
      Nat.add_zero]

end Sys2Proof
end

