-- ==== Sys2Proof/Tests/Slice0.lean ====
section
/-! SUPPORT. Tests: words written out from the spec's encodings decode to their commands, ill-formed words
and tables are refused, one small step per command with the spec's own values, and for every statement
with hypotheses a state and operands that meet them (`witness_…`). Expected values are the spec's
(95_test_vectors and the examples of the rules), never the model's. -/

namespace Sys2Proof.Tests

open Sys2Proof Sys2Proof.Machine

/-! ## Helpers -/

/-- Reset with the spec's default parameters at a depth. -/
def start (d : Depth) : State := .resetWith (.default d)

/-- The state after some commands. -/
def after (s : State) (cs : List Instr) : State := (nextState (execAll cs s)).getD s

/-- The value a command hands back. -/
def answer (s : State) (i : Instr) : Option Reply :=
  (nextState (exec i s)).bind fun t => t.replies.getLast?

/-- The three plane words of a stored row. -/
def words (s : State) (b : Buf) (p : Panel) (r : Fin 8) : PlaneWord × PlaneWord × PlaneWord :=
  (s.fsRead b p r .red, s.fsRead b p r .green, s.fsRead b p r .blue)

/-- The place a draw targets in a canvas of the given mode. -/
def target (wide tall wrap : Bool) (gfx : Panel) (x y : Int) : Option LedPlace :=
  { start .two with wide := wide, tall := tall, wrap := wrap, gfxPanel := gfx }.drawTarget x y

/-! ## Decoding: one word for every row of the opcode map -/

/-- R109; 41_row_panel R165, R157 examples; 95 V2. -/
theorem test_decode_orientation :
    decode 0x0000000000000000 = .ok .nop ∧
    decode 0x0101010001000000 = .ok (.setPanelOrient .bufB .top .down) ∧
    decode 0x0200010301000000 = .ok (.setRowOrient .bufA .top 3 .down) ∧
    decode 0x0301010600000000 = .ok (.isOrientedUp .bufB .top 6) := ⟨rfl, rfl, rfl, rfl⟩

/-- R251, R252, R260, R280 examples; 95 V5, V6, V8. -/
theorem test_decode_coordinate :
    decode 0x0400000000000005 = .ok (.setMode true false true) ∧
    decode 0x0500010000000000 = .ok (.setGfxPanel .top) ∧
    decode 0x300000020000F800 = .ok (.drawPixel 2 0 0xF800) ∧
    decode 0x30000002FFFFFFFF = .ok (.drawPixel 2 (-1) 0xFFFF) ∧
    decode 0x3100000000030000 = .ok (.getTopNeighbor 0 3 0x0000) := ⟨rfl, rfl, rfl, rfl, rfl⟩

/-- 95 V2, V8; the last three written out from R101 (format RA: op, role, panel, row, idx). -/
theorem test_decode_row_panel :
    decode 0x1001000300FF0609 = .ok (.setLedPixel .animate .back 3 0 0xFF 0x06 0x09) ∧
    decode 0x110103020500F800 = .ok (.setLedColor .animate .front 2 5 0xF800) ∧
    decode 0x1201030002000000 = .ok (.getLed .animate .front 0 2) ∧
    decode 0x1300040500000000 = .ok (.getRow .display .right 5) ∧
    decode 0x1401030700000000 = .ok (.getShiftRow .animate .front 7) := ⟨rfl, rfl, rfl, rfl, rfl⟩

/-- R183, R301, R302, R304, R305, R210 examples. -/
theorem test_decode_control :
    decode 0x2000000000000001 = .ok (.requestSwap true) ∧
    decode 0x2100000000000001 = .ok (.setBlank true) ∧
    decode 0x4000000100000032 = .ok (.animRegister true 50) ∧
    decode 0x4100000000000000 = .ok .animEnter ∧
    decode 0x4200000000000001 = .ok (.animExit true) ∧
    decode 0x5000000000000000 = .ok .refreshStep := ⟨rfl, rfl, rfl, rfl, rfl, rfl⟩

/-- 95 V1. -/
theorem test_decode_pixel :
    decode 0x6000000000030201 = .ok (.pack 3 2 1) ∧
    decode 0x610000000000ABCD = .ok (.unpack 0xABCD) ∧
    decode 0x6200000000FF0609 = .ok (.pixelNew 0xFF 6 9) ∧
    decode 0x6300010203050607 = .ok (.pixelEq 1 2 3 5 6 7) := ⟨rfl, rfl, rfl, rfl⟩

/-- 95 P3: the word of a command, the encoder's way round. -/
theorem test_encode_led :
    encode (.setLedPixel .animate .front 0 0 1 2 3) = 0x1001030000010203 ∧
    encode (.drawPixel (-1) 8 0xF800) = 0x3000FFFF0008F800 ∧
    encode (.setMode true true true) = 0x0400000000000007 := ⟨rfl, rfl, rfl⟩

/-- R111: the text of a command. -/
theorem test_text :
    (Instr.setRowOrient .bufA .top 3 .down).text = "SET_ROW_ORIENT A, TOP, 3, DOWN" := by
  decide +kernel

/-! ## Ill-formed words and tables are refused -/

/-- 95 V8: the illegal words and why. -/
theorem test_decode_refuses :
    decode 0x1001050000000000 = .error .badPanel ∧ decode 0x1001030800000000 = .error .badRow ∧
    decode 0x1201030200010000 = .error .mustBeZero ∧ decode 0x0400000000000008 = .error .badFlags ∧
    decode 0x0101010101000000 = .error .mustBeZero ∧
    decode 0x0700000000000000 = .error (.unassignedOpcode 0x07) ∧
    decode 0x5000000000000001 = .error .mustBeZero ∧
    decode 0x4000000200000000 = .error .badPresent :=
  ⟨rfl, rfl, rfl, rfl, rfl, rfl, rfl, rfl⟩

/-- R102: the remaining operand fields at one more than their largest legal value. -/
theorem test_decode_refuses_fields :
    decode 0x0102010001000000 = .error .badBuf ∧ decode 0x1202030002000000 = .error .badRole ∧
    decode 0x1201030008000000 = .error .badIdx ∧ decode 0x0101010002000000 = .error .badOrient :=
  ⟨rfl, rfl, rfl, rfl⟩

/-- The smoke test of WellFormed: each of the words above is ill formed. -/
theorem test_ill_formed_words :
    ([0x1001050000000000, 0x1001030800000000, 0x1201030200010000, 0x0400000000000008,
      0x0101010101000000, 0x0700000000000000, 0x5000000000000001, 0x4000000200000000,
      0x0102010001000000, 0x1202030002000000, 0x1201030008000000, 0x0101010002000000] :
      List CommandWord).all (fun w => !legalWord w) = true := by decide +kernel

/-- R201: `SCHED[2] = 0x2` has one 1 bit, not two. -/
theorem test_ill_formed_schedule : (Schedule.two #v[0x0, 0x8, 0x2, 0xE]).wf = false := by decide +kernel

/-- 95 V4c: another table that meets R201. -/
theorem test_other_schedule : (Schedule.two #v[0x0, 0x1, 0x5, 0x7]).wf = true := by decide +kernel

/-! ## The pixel family (95 V1) -/

theorem test_pixelNew :
    answer (start .two) (.pixelNew 0xFF 0x06 0x09) = some (.pixel ⟨3, 2, 1⟩) ∧
    answer (start .four) (.pixelNew 0xFF 0x06 0x09) = some (.pixel ⟨15, 6, 9⟩) := by decide +kernel

theorem test_pixelEq :
    answer (start .two) (.pixelEq 1 2 3 5 6 7) = some (.bit true) ∧
    answer (start .four) (.pixelEq 1 2 3 5 6 7) = some (.bit false) ∧
    answer (start .two) (.pixelEq 1 2 3 1 2 2) = some (.bit false) := by decide +kernel

theorem test_pack :
    answer (start .two) (.pack 2 1 1) = some (.color 0x8208) ∧
    answer (start .four) (.pack 0xFF 0xFF 0xFF) = some (.color 0xF79E) := by decide +kernel

theorem test_unpack :
    answer (start .two) (.unpack 0xABCD) = some (.pixel ⟨2, 1, 1⟩) ∧
    answer (start .four) (.unpack 0xABCD) = some (.pixel ⟨10, 7, 6⟩) := by decide +kernel

/-! ## The Row and Panel family (95 V2) -/

/-- LED 2 of an UP Row, then LED 2 overwritten: the old red is cleared, not OR-ed. -/
theorem test_setLedPixel :
    words (after (start .two) [.setLedPixel .animate .front 0 2 3 1 0]) .bufB .front 0 =
      (0x0030, 0x0010, 0x0000) ∧
    words (after (start .two) [.setLedPixel .animate .front 0 2 3 1 0,
      .setLedPixel .animate .front 0 7 3 1 0, .setLedPixel .animate .front 0 2 0 3 1]) .bufB .front 0 =
      (0xC000, 0x4030, 0x0010) := by decide +kernel

/-- The same write in a DOWN Row, for `D = 4`. -/
theorem test_setLedPixel_down :
    words (after (start .four) [.setRowOrient .bufB .front 0 .down,
      .setLedPixel .animate .front 0 2 15 8 1]) .bufB .front 0 =
      (0x00F00000, 0x00800000, 0x00100000) := by decide +kernel

theorem test_setLedColor :
    words (after (start .four) [.setLedColor .animate .back 3 1 0xABCD]) .bufB .back 3 =
      (0x000000A0, 0x00000070, 0x00000060) ∧
    words (after (start .two) [.setLedColor .animate .back 3 1 0xABCD]) .bufB .back 3 =
      (0x0008, 0x0004, 0x0004) := by decide +kernel

/-- Orientation does not move data: LED 0 written UP is LED 7 once the Row is DOWN. -/
theorem test_getLed :
    answer (after (start .two) [.setLedPixel .animate .back 0 0 3 0 0,
      .setRowOrient .bufB .back 0 .down]) (.getLed .animate .back 0 7) = some (.pixel ⟨3, 0, 0⟩) ∧
    answer (after (start .two) [.setLedPixel .animate .back 0 0 3 0 0,
      .setRowOrient .bufB .back 0 .down]) (.getLed .animate .back 0 0) = some (.pixel ⟨0, 0, 0⟩) := by
  decide +kernel

theorem test_isOrientedUp :
    answer (after (start .two) [.setPanelOrient .bufB .top .down]) (.isOrientedUp .bufB .top 6) =
      some (.bit false) ∧
    answer (after (start .two) [.setPanelOrient .bufB .top .down]) (.isOrientedUp .bufA .top 6) =
      some (.bit true) := by decide +kernel

/-- A Row's flag alone does not turn the Panel. -/
theorem test_setRowOrient :
    (after (start .two) [.setRowOrient .bufA .top 3 .down]).roworAt .bufA .top 3 = .down ∧
    (after (start .two) [.setRowOrient .bufA .top 3 .down]).panorAt .bufA .top = .up := by decide +kernel

theorem test_setPanelOrient :
    (after (start .two) [.setPanelOrient .bufB .top .down]).panorAt .bufB .top = .down ∧
    (after (start .two) [.setPanelOrient .bufB .top .down]).roworAt .bufB .top 7 = .down := by
  decide +kernel

/-- R161 and R162 examples: the row drawn in stored row 0 is shift row 7 of a DOWN Panel. -/
theorem test_getRow_getShiftRow :
    answer (after (start .two) [.setLedPixel .animate .front 0 2 3 1 0]) (.getRow .animate .front 0) =
      some (.row 0x0030 0x0010 0x0000) ∧
    answer (after (start .two) [.setLedPixel .animate .front 0 2 3 1 0,
      .setPanelOrient .bufB .front .down]) (.getShiftRow .animate .front 7) =
      some (.row 0x0030 0x0010 0x0000) ∧
    answer (after (start .two) [.setLedPixel .animate .front 0 2 3 1 0,
      .setPanelOrient .bufB .front .down]) (.getShiftRow .animate .front 0) =
      some (.row 0 0 0) := by decide +kernel

/-! ## Frame Store and Refresh Engine (95 V3, V4) -/

theorem test_requestSwap :
    (after (start .two) [.requestSwap true]).displayIndex = .bufB ∧
    (after (start .two) [.requestSwap true]).animateIndex = .bufA ∧
    (after (start .two) [.requestSwap false]).swapPending = true ∧
    (after (start .two) [.requestSwap false]).displayIndex = .bufA := by decide +kernel

/-- The last row of the last sub-cycle with a request pending: V3's row at (3, 7). -/
theorem test_refresh_boundary :
    (after { start .two with subCycle := 3, row := 7 } [.requestSwap false, .refreshStep]).displayIndex =
      .bufB ∧
    (after { start .two with subCycle := 3, row := 7 } [.requestSwap false, .refreshStep]).subCycle = 0 ∧
    (after { start .two with subCycle := 3, row := 7 } [.requestSwap false, .refreshStep]).swapPending =
      false := by decide +kernel

/-- V4a: one bit of 120 is on, the last five events, the next state of the sequencer. -/
theorem test_refresh_events :
    (after { start .two with fs := [(0, 0x0003)], subCycle := 1, blankSeq := false } [.refreshStep]).trace =
      clockBit true ++ (List.replicate 119 false).flatMap clockBit ++
        [.oeN true, .rowsel 0, .latch true, .latch false, .oeN false] ∧
    (after { start .two with fs := [(0, 0x0003)], subCycle := 1, blankSeq := false } [.refreshStep]).row =
      1 := by decide +kernel

/-! ## Coordinate Adapter (95 V5, V6) -/

theorem test_drawPixel :
    words (after (start .two) [.setGfxPanel .front, .drawPixel 2 1 0xF800]) .bufB .front 1 =
      (0x0030, 0x0000, 0x0000) ∧
    (after (start .two) [.drawPixel 8 0 0xFFFF]).fs = [] := by decide +kernel

theorem test_drawTarget :
    target false false false .front 2 1 = some ⟨.front, 1, 2⟩ ∧
    target false true false .front 3 9 = none ∧
    target true false true .front (-33) 2 = some ⟨.back, 2, 7⟩ ∧
    target true false false .front 32 0 = none ∧
    target true true false .front 0 0 = some ⟨.top, 0, 7⟩ ∧
    target true true false .front 10 3 = some ⟨.top, 3, 2⟩ ∧
    target true true false .front 17 2 = some ⟨.top, 6, 2⟩ ∧
    target true true false .front 30 5 = some ⟨.top, 2, 1⟩ ∧
    target true true false .front 12 15 = some ⟨.front, 7, 4⟩ ∧
    target true true true .front 33 15 = some ⟨.left, 7, 1⟩ := by decide +kernel

theorem test_setMode_setGfxPanel :
    (after (start .two) [.setMode true false true]).wide = true ∧
    (after (start .two) [.setMode true false true]).tall = false ∧
    (after (start .two) [.setMode true false true]).wrap = true ∧
    (after (start .two) [.setGfxPanel .top]).gfxPanel = .top := by decide +kernel

/-- The ANIMATE buffer of V6. -/
def corners : State :=
  after (start .four) [.setLedPixel .animate .left 0 7 15 0 0, .setLedPixel .animate .front 0 0 0 0 15,
    .setLedPixel .animate .back 0 7 0 15 0]

theorem test_getTopNeighbor :
    answer corners (.getTopNeighbor 0 7 0x0000) = some (.pixel ⟨7, 0, 7⟩) ∧
    answer corners (.getTopNeighbor 0 0 0x0000) = some (.pixel ⟨0, 15, 0⟩) ∧
    answer corners (.getTopNeighbor 0 0 0xFFFF) = some (.pixel ⟨0, 7, 0⟩) ∧
    answer corners (.getTopNeighbor 7 7 0x0000) = some (.pixel ⟨0, 0, 0⟩) ∧
    answer corners (.getTopNeighbor 3 3 0x1234) = some (.pixel ⟨1, 4, 10⟩) := by decide +kernel

/-! ## Animation Scheduler (95 V7) -/

/-- A registered callback and an output that is not blanked. -/
def ready : State := { start .two with animRegistered := true, blankSeq := false }

theorem test_anim :
    (after ready [.animEnter]).blankHold = true ∧ (after ready [.animEnter]).trace = [.oeN true] ∧
    (after ready [.animEnter, .animEnter]).trace = [.oeN true] ∧
    (after ready [.animEnter, .animExit false]).trace = [.oeN true, .oeN false] := by decide +kernel

/-- Entered while blanked: no pin write, and the exit stays blanked and asks for the swap. -/
theorem test_anim_blanked :
    (after ready [.setBlank true, .animEnter, .animExit true]).trace = [.oeN true, .oeN true] ∧
    (after ready [.setBlank true, .animEnter, .animExit true]).swapPending = true ∧
    (after ready [.animExit true]).swapPending = false := by decide +kernel

theorem test_animRegister :
    (after (start .two) [.animRegister true 50]).animRegistered = true ∧
    (after (start .two) [.animRegister true 50]).animPeriod = 50 ∧
    after (start .two) [.animEnter] = start .two := by decide +kernel

theorem test_nop_setBlank :
    after ready [.nop] = ready ∧ (after ready [.setBlank true]).trace = [.oeN true] ∧
    (after ready [.setBlank true]).pins.oeN = true := by decide +kernel

/-! ## Witnesses: the hypotheses of the statements can be met -/

theorem inv_start : (start .two).Inv := by constructor <;> decide +kernel

/-- A state in the middle of a cycle, of depth 4, with a drawn LED, a DOWN Panel and a waiting step. -/
def busy : State :=
  { after (start .four) [.setPanelOrient .bufA .top .down, .setLedPixel .animate .top 1 2 15 8 1,
      .refreshStep] with commands := [0x5000000000000000] }

theorem inv_busy : busy.Inv := by constructor <;> decide +kernel

/-- StepRunsDecodedCommand, EncodeOfDecode. -/
theorem witness_step :
    busy.commands = 0x5000000000000000 :: [] ∧ decode 0x5000000000000000 = .ok .refreshStep :=
  ⟨rfl, rfl⟩

/-- StepWaitsOrRefuses, both clauses. -/
theorem witness_wait_refuse :
    State.reset.commands = [] ∧
    (State.reset.withFetchWord 64 0x0700000000000000).commands = 0x0700000000000000 :: [] ∧
    decode 0x0700000000000000 = .error (.unassignedOpcode 7) := ⟨rfl, rfl, rfl⟩

/-- StepKeepsInvariant: a step that goes on from a state with the invariant. -/
theorem witness_step_inv : busy.Inv ∧ (nextState (step busy)).isSome = true :=
  ⟨inv_busy, by decide +kernel⟩

/-- FirstStepAfterReset, PulseCountIsLevel: builds of both depths with a table that meets R201. -/
theorem witness_builds :
    (Build.default .two).sched.wf = true ∧ (Build.default .four).sched.wf = true ∧
    (start .four).build.sched.wf = true ∧ (start .four).subCycle = 0 ∧ (start .four).row = 0 := by
  decide +kernel

/-- QuantizationRoundTrip: the largest Pixel of depth 4, and the depth of the second clause. -/
theorem witness_quantization :
    (15 : BitVec 8).toNat < 2 ^ (start .four).depth.bits ∧
    (3 : BitVec 8).toNat < 2 ^ (start .two).depth.bits ∧ (start .two).depth = .two := by decide +kernel

/-- SetLedPixelWritesOneField, WriteThenRead, OrientationMirrorsPanel: canonical memory, Rows of both
orientations, the position each gives LED 2, a number outside the Row's three words. -/
theorem witness_led :
    busy.fs.wf = true ∧ busy.roworAt (busy.buf .animate) .top 1 = .up ∧ (2 : Fin 8).val = 2 ∧
    busy.roworAt (busy.buf .display) .top 1 = .down ∧ (5 : Fin 8).val = 7 - (2 : Fin 8).val ∧
    (∀ c, (239 : Nat) ≠ wordNumber (busy.buf .animate) .top 1 c) ∧ (3 : Fin 8) ≠ 2 := by
  refine ⟨by decide +kernel, by decide +kernel, rfl, by decide +kernel, rfl, ?_, by decide⟩
  intro c
  cases c <;> decide +kernel

/-- SetRowOrientWritesOneFlag, SetPanelOrientPropagates: another place; IsOrientedUpReadsFlag,
GetLedReadsField, OrientationMovesNoData, GetShiftRowFollowsPanel: flags of both values. -/
theorem witness_orientation :
    (Buf.bufA, Panel.top, (3 : Fin 8)) ≠ (.bufB, .top, 3) ∧ (Buf.bufA, Panel.top) ≠ (.bufA, .left) ∧
    busy.roworAt .bufA .top 0 = .down ∧ busy.roworAt .bufB .top 0 = .up ∧
    busy.panorAt (busy.buf .display) .top = .down ∧ busy.panorAt (busy.buf .animate) .top = .up := by
  decide +kernel

/-- A state at the boundary of the cycle with a swap pending. -/
def atBoundary : State := { start .two with subCycle := 3, row := 7, swapPending := true }

/-- SwapCombinations, SequencerAdvance, BoundarySwap: every clause. -/
theorem witness_sequencer :
    atBoundary.subCycle < atBoundary.depth.levels ∧ atBoundary.swapPending = true ∧
    atBoundary.row = 7 ∧ atBoundary.subCycle = atBoundary.depth.levels - 1 ∧
    (start .two).row.val < 7 ∧
    ({ start .two with row := 7 } : State).subCycle < ({ start .two with row := 7 } : State).depth.levels - 1 ∧
    ¬ ((start .two).row = 7 ∧ (start .two).subCycle = (start .two).depth.levels - 1 ∧
      (start .two).swapPending = true) := by decide +kernel

/-- DeferredSwapLatency: a stream with a draw and a refresh step, `k` = 32, and the empty stream one step
before the boundary, `k` = 1. -/
theorem witness_latency :
    (start .two).subCycle < (start .two).depth.levels ∧
    (∀ i ∈ ([.drawPixel 2 1 0xF800, .refreshStep] : List Instr), i ≠ .requestSwap true) ∧
    32 = ((start .two).depth.levels - 1 - (start .two).subCycle) * 8 + (8 - (start .two).row.val) ∧
    ([.drawPixel 2 1 0xF800, .refreshStep] : List Instr).count .refreshStep < 32 ∧
    1 = (atBoundary.depth.levels - 1 - atBoundary.subCycle) * 8 + (8 - atBoundary.row.val) ∧
    ([] : List Instr).count .refreshStep + 1 = 1 := by
  refine ⟨by decide +kernel, ?_, by decide +kernel, by decide +kernel, by decide +kernel, rfl⟩
  intro i hi
  simp only [List.mem_cons, List.not_mem_nil, or_false] at hi
  rcases hi with rfl | rfl <;> decide

/-- SerialBitOrder: both LED orders and Panels of both orientations in the DISPLAY buffer. -/
theorem witness_serial :
    (119 : Nat) < 120 ∧ busy.build.ledOrder = .asc ∧
    ({ busy with build := { busy.build with ledOrder := .desc } } : State).build.ledOrder = .desc ∧
    busy.panorAt busy.displayIndex .top = .down ∧ busy.panorAt busy.displayIndex .back = .up := by
  decide +kernel

/-- RefreshStepOnTheBus, ChainShowsSerialFrame: an idle bus. StepWhileBlanked: a held output. -/
theorem witness_bus :
    busy.pins.sclk = false ∧ busy.pins.sdata = false ∧ busy.pins.latch = false ∧
    busy.pins.oeN = (busy.blankSeq || busy.blankHold) ∧
    (⟨busy.pins, 5, 9⟩ : Chain).pins = busy.pins ∧
    ({ busy with blankHold := true } : State).blankHold = true := by decide +kernel

/-- CycleIntegrity, DisplayChangesOnlyWhenAddressed: a draw and a refresh step disturb no display. -/
theorem witness_cycle :
    (start .two).Inv ∧ (start .two).subCycle = 0 ∧ (start .two).row = 0 ∧
    undisturbed [.drawPixel 2 1 0xF800, .refreshStep] (start .two) ∧
    ([.drawPixel 2 1 0xF800, .refreshStep] : List Instr).count .refreshStep <
      8 * (start .two).depth.levels ∧
    (start .two).animateIndex ≠ (start .two).displayIndex ∧
    disturbsDisplay (start .two) (.setLedPixel .animate .top 0 0 1 1 1) = false ∧
    (nextState (exec (.setLedPixel .animate .top 0 0 1 1 1) (start .two))).isSome = true :=
  ⟨inv_start, rfl, rfl, ⟨rfl, fun _ _ => ⟨rfl, fun _ _ => trivial⟩⟩, by decide +kernel, by decide +kernel,
    rfl, rfl⟩

/-- DrawOutsideIsDropped: each way out, at the bounds of the flat, wide, and wide and tall canvas. -/
theorem witness_outside :
    (0xFFFF : BitVec 16).toInt < 0 ∧ (8 : Int) ≤ (8 : BitVec 16).toInt ∧
    (16 : Int) ≤ (16 : BitVec 16).toInt ∧ (start .two).wrap = false ∧
    (8 : Int) = (if (start .two).wide then 32 else 8) ∧
    (32 : Int) = (if ({ start .two with wide := true } : State).wide then 32 else 8) ∧
    (32 : Int) ≤ (32 : BitVec 16).toInt ∧
    (8 : Int) = (if (start .two).wide ∧ (start .two).tall then 16 else 8) := by decide +kernel

/-- A state with the given mode bits. -/
def canvas (wide tall wrap : Bool) : State :=
  { start .two with wide := wide, tall := tall, wrap := wrap }

/-- DrawInsideWritesTarget, SeamsClose: the flat, the wide and the wide and tall canvas at their last
points, and a negative column that wraps to 31. -/
theorem witness_inside :
    ((7 : Nat) : Int) = (if (canvas false false false).wrap then
      (7 : BitVec 16).toInt % (if (canvas false false false).wide then 32 else 8)
      else (7 : BitVec 16).toInt) ∧
    (7 : Nat) < (if (canvas false false false).wide then 32 else 8) ∧
    ((31 : Nat) : Int) = (if (canvas true true true).wrap then
      (0xFFFF : BitVec 16).toInt % (if (canvas true true true).wide then 32 else 8)
      else (0xFFFF : BitVec 16).toInt) ∧
    (31 : Nat) < (if (canvas true true true).wide then 32 else 8) ∧
    (15 : Nat) < (if (canvas true true true).wide ∧ (canvas true true true).tall then 16 else 8) ∧
    ((7 : Nat) : Int) = (7 : BitVec 16).toInt ∧ ((15 : Nat) : Int) = (15 : BitVec 16).toInt ∧
    (canvas true true true).wide = true ∧ (canvas true true true).tall = true ∧
    (canvas true false false).wide = true ∧ (canvas true false false).tall = false := by decide +kernel

/-- NeighborAtEdge at both ends of its range; NeighborAtCorner's first and last corner. -/
theorem witness_neighbor :
    (1 ≤ (1 : Fin 8).val ∧ (1 : Fin 8).val ≤ 6 ∧ (1 : BitVec 16) = BitVec.ofNat 16 (1 : Fin 8).val) ∧
    (1 ≤ (6 : Fin 8).val ∧ (6 : Fin 8).val ≤ 6 ∧ (6 : BitVec 16) = BitVec.ofNat 16 (6 : Fin 8).val) ∧
    ((0, 0, .left, 0, .back, 7) ∈ ([(0, 0, .left, 0, .back, 7), (7, 0, .right, 7, .back, 0),
      (0, 7, .left, 7, .front, 0), (7, 7, .right, 0, .front, 7)] :
      List (BitVec 16 × BitVec 16 × Panel × Fin 8 × Panel × Fin 8))) ∧
    ((7, 7, .right, 0, .front, 7) ∈ ([(0, 0, .left, 0, .back, 7), (7, 0, .right, 7, .back, 0),
      (0, 7, .left, 7, .front, 0), (7, 7, .right, 0, .front, 7)] :
      List (BitVec 16 × BitVec 16 × Panel × Fin 8 × Panel × Fin 8))) := by decide +kernel

/-- NeighborAtCorner: candidates of which both, one or neither are the background (V6). -/
theorem witness_corner_clauses :
    corners.sideLed .right 0 = ⟨0, 0, 0⟩ ∧ corners.sideLed .front 7 = ⟨0, 0, 0⟩ ∧
    corners.sideLed .left 0 = ⟨0, 0, 0⟩ ∧ corners.sideLed .back 7 ≠ ⟨0, 0, 0⟩ ∧
    corners.sideLed .left 7 ≠ ⟨0, 0, 0⟩ ∧ corners.sideLed .front 0 ≠ ⟨0, 0, 0⟩ ∧
    corners.sideLed .right 7 ≠ ⟨15, 15, 15⟩ ∧ unpackColor .four 0x0000 = ⟨0, 0, 0⟩ := by decide +kernel

/-- AnimEnterProtocol, AnimExitProtocol: every clause. -/
theorem witness_anim :
    ((start .two).animRegistered = false) ∧ ((start .two).animActive = false) ∧
    (ready.animRegistered = true ∧ ready.animActive = false ∧ ready.blankHold = false) ∧
    (({ ready with blankHold := true } : State).blankHold = true) ∧
    ((after ready [.animEnter]).animActive = true) := by decide +kernel

/-- InvocationStaysDark: a body that draws, blanks and lets a refresh step pass. -/
theorem witness_dark :
    ({ start .two with animRegistered := true } : State).Inv ∧
    ({ start .two with animRegistered := true } : State).animActive = false ∧
    ∀ i ∈ ([.drawPixel 7 0 0xF800, .setBlank true, .refreshStep] : List Instr),
      i ≠ .setBlank false ∧ ∀ f, i ≠ .animExit f := by
  refine ⟨by constructor <;> decide +kernel, rfl, ?_⟩
  intro i hi
  simp only [List.mem_cons, List.not_mem_nil, or_false] at hi
  rcases hi with rfl | rfl | rfl <;> exact ⟨by decide, fun f => by simp⟩

/-- HostLeavesScanAlone: a host command that goes on. -/
theorem witness_host : contextOf .animEnter = .animation ∧ (nextState (exec .animEnter ready)).isSome = true :=
  ⟨rfl, rfl⟩

/-- RolesChangeOnlyBySwap: both clauses, by the two ways to swap. -/
theorem witness_roles :
    (after atBoundary [.refreshStep]).displayIndex ≠ atBoundary.displayIndex ∧
    (after atBoundary [.refreshStep]).swapPending = false ∧
    (after (start .two) [.requestSwap true]).displayIndex ≠ (start .two).displayIndex := by
  decide +kernel

/-- RegistersHaveTheirWriters: each register is changed by a command named for it. -/
theorem witness_writers :
    (after ready [.refreshStep]).row ≠ ready.row ∧
    (after ready [.requestSwap true]).displayIndex ≠ ready.displayIndex ∧
    (after ready [.requestSwap false]).swapPending = true ∧ ready.swapPending = false ∧
    (after { ready with swapPending := true, subCycle := 3, row := 7 } [.refreshStep]).swapPending =
      false ∧
    (after ready [.setBlank true]).blankHold ≠ ready.blankHold ∧
    (after ready [.setMode true true true]).tall ≠ ready.tall ∧
    (after ready [.setGfxPanel .top]).gfxPanel ≠ ready.gfxPanel ∧
    (after ready [.animRegister false 7]).animPeriod ≠ ready.animPeriod ∧
    (after ready [.animEnter]).animActive ≠ ready.animActive ∧
    (after { ready with blankHold := true } [.animEnter]).animSavedHold ≠ ready.animSavedHold ∧
    (after ready [.setPanelOrient .bufA .top .down]).panor ≠ ready.panor ∧
    (after ready [.setRowOrient .bufA .top 0 .down]).rowor ≠ ready.rowor := by decide +kernel

/-- ReadersChangeNothing: a reader; RepeatingChangesNothing: a state with the invariant and a command of
each clause that goes on. -/
theorem witness_repeating :
    busy.Inv ∧ (nextState (exec (.drawPixel 7 7 0xFFFF) busy)).isSome = true ∧
    (nextState (exec (.setBlank true) busy)).isSome = true ∧
    (answer busy (.getLed .display .back 0 0)).isSome = true :=
  ⟨inv_busy, rfl, rfl, rfl⟩

/-! ## The words the host places -/

/-- A placed word is the very next command. -/
theorem test_withFetchWord :
    decodeTableWord 64 0x0500010000000000 = some (.setGfxPanel .top) ∧
    step (State.reset.withFetchWord 64 0x0500010000000000) =
      .next { State.reset with gfxPanel := .top } := ⟨rfl, rfl⟩

end Sys2Proof.Tests
end

section
/-! # Proofs of the state family (10_state)

## What a command and a step can do

`Effect` lists, once for all 23 commands, the operation a command ends in; `exec_effect` ties it to
`exec`. The proofs about every command split over its constructors instead of unfolding `exec`. -/

namespace Sys2Proof.Machine

open Sys2Proof

/-- `Effect s i t`: command `i` takes state `s` to `t`, by the operation its rule names. A command that
changes nothing, one that writes an LED and one that hands back a value write no register of R35. A value
handed back has the build's widths where the words of the store have them. -/
inductive Effect (s : State) : Instr → State → Prop
  | unchanged (i : Instr) : Effect s i s
  | drawn (i : Instr) (role : Role) (p : Panel) (r idx : Fin 8) (px : Pixel) :
      Effect s i (s.writeLed (s.buf role) p r idx px)
  | replied (i : Instr) (v : Reply) (hv : s.fs.fits s.depth = true → v.fits s.depth = true) :
      Effect s i (s.reply v)
  | panelOriented (b : Buf) (p : Panel) (o : Orient) :
      Effect s (.setPanelOrient b p o) ((s.setPanor b p o).setAllRowor b p o)
  | rowOriented (b : Buf) (p : Panel) (r : Fin 8) (o : Orient) :
      Effect s (.setRowOrient b p r o) (s.setRowor b p r o)
  | modeSet (w t x : Bool) : Effect s (.setMode w t x) (s.setModeBits w t x)
  | panelChosen (p : Panel) : Effect s (.setGfxPanel p) { s with gfxPanel := p }
  | swapped : Effect s (.requestSwap true) s.swap
  | swapRequested : Effect s (.requestSwap false) s.requestDeferredSwap
  | blanked (on : Bool) : Effect s (.setBlank on) (s.setBlankHold on)
  | registered (present : Bool) (period : BitVec 32) :
      Effect s (.animRegister present period) { s.setRegistered present with animPeriod := period }
  | entered : Effect s .animEnter s.enterAnimation
  | exited (done : Bool) : Effect s (.animExit done) (s.exitAnimation done)
  | refreshed : Effect s .refreshStep s.afterRefresh

/-! ### The values handed back have the build's widths (R24, R92) -/

theorem Pixel.fits_of_masked {d : Depth} {px : Pixel} (h : px.masked d) : px.fits d = true := by
  have hr : px.r &&& d.mask = px.r := h .red
  have hg : px.g &&& d.mask = px.g := h .green
  have hb : px.b &&& d.mask = px.b := h .blue
  simp [Pixel.fits, Level.fits, hr, hg, hb]

/-- The words of a Row read from a store of `PW`-bit words have `PW` bits. -/
theorem State.rowReply_fits {s : State} (h : s.fs.fits s.depth = true) (b : Buf) (p : Panel)
    (r : Fin 8) : (s.rowReply b p r).fits s.depth = true := by
  simp [State.rowReply, Reply.fits, State.fsRead, Memory.read_fits h]

/-! ### Inversion of `exec` and of `step` -/

/-- Every command goes on, with one of the effects. -/
theorem exec_effect (s : State) (i : Instr) : ∃ t, exec i s = .next t ∧ Effect s i t := by
  cases i with
  | nop => exact ⟨_, rfl, .unchanged _⟩
  | setPanelOrient b p o => exact ⟨_, rfl, .panelOriented b p o⟩
  | setRowOrient b p r o => exact ⟨_, rfl, .rowOriented b p r o⟩
  | isOrientedUp b p r => exact ⟨_, rfl, .replied _ _ fun _ => rfl⟩
  | setMode w t x => exact ⟨_, rfl, .modeSet w t x⟩
  | setGfxPanel p => exact ⟨_, rfl, .panelChosen p⟩
  | setLedPixel q p r x a b c => exact ⟨_, rfl, .drawn _ q p r x _⟩
  | setLedColor q p r x c => exact ⟨_, rfl, .drawn _ q p r x _⟩
  | getLed q p r x =>
    exact ⟨_, rfl, .replied _ _ fun _ => Pixel.fits_of_masked (s.readLed_masked _ _ _ _)⟩
  | getRow q p r => exact ⟨_, rfl, .replied _ _ fun h => State.rowReply_fits h _ _ _⟩
  | getShiftRow q p r => exact ⟨_, rfl, .replied _ _ fun h => State.rowReply_fits h _ _ _⟩
  | requestSwap immediate =>
    cases immediate
    case false => exact ⟨_, rfl, .swapRequested⟩
    case true => exact ⟨_, rfl, .swapped⟩
  | setBlank on => exact ⟨_, rfl, .blanked on⟩
  | drawPixel x y c =>
    cases h : s.drawTarget x.toInt y.toInt with
    | none => exact ⟨s, by simp only [exec, execDrawPixel, h], .unchanged _⟩
    | some place =>
      exact ⟨_, by simp only [exec, execDrawPixel, h],
        .drawn _ .animate place.panel place.row place.idx (unpackColor s.depth c)⟩
  | getTopNeighbor x y bg =>
    exact ⟨_, rfl, .replied _ _ fun _ => Pixel.fits_of_masked (s.topNeighbor_masked _ _ _)⟩
  | animRegister present period => exact ⟨_, rfl, .registered present period⟩
  | animEnter =>
    by_cases h : (s.animRegistered && !s.animActive) = true
    · exact ⟨_, by simp only [exec, execAnimEnter, if_pos h], .entered⟩
    · exact ⟨_, by simp only [exec, execAnimEnter, if_neg h], .unchanged _⟩
  | animExit done =>
    by_cases h : s.animActive = true
    · exact ⟨_, by simp only [exec, execAnimExit, if_pos h], .exited done⟩
    · exact ⟨_, by simp only [exec, execAnimExit, if_neg h], .unchanged _⟩
  | refreshStep => exact ⟨_, exec_refreshStep s, .refreshed⟩
  | pack r g b => exact ⟨_, rfl, .replied _ _ fun _ => rfl⟩
  | unpack c => exact ⟨_, rfl, .replied _ _ fun _ => Pixel.fits_of_masked (unpackColor_masked _ _)⟩
  | pixelNew r g b => exact ⟨_, rfl, .replied _ _ fun _ => Pixel.fits_of_masked (pixelOf_masked _ _ _ _)⟩
  | pixelEq r1 g1 b1 r2 g2 b2 => exact ⟨_, rfl, .replied _ _ fun _ => rfl⟩

/-- Inversion of `exec`. -/
theorem effect_of_exec {s t : State} {i : Instr} (h : exec i s = .next t) : Effect s i t := by
  obtain ⟨u, hu, effect⟩ := exec_effect s i
  obtain rfl : u = t := by rw [hu] at h; injection h
  exact effect

/-- Inversion of `step`: the block waits, or runs a command with its word taken off. -/
theorem step_cases {s t : State} (h : step s = .next t) :
    t = s ∨ ∃ i, exec i s.takeCommand = .next t := by
  unfold step at h
  split at h
  · injection h with h
    exact .inl h.symm
  · split at h
    · cases h
    · exact .inr ⟨_, h⟩

end Sys2Proof.Machine
end

section
/-! ## The invariant: one lemma per operation -/

namespace Sys2Proof.Machine

open Sys2Proof

/-! ### What the invariant does not read -/

/-- Writing only what the invariant does not mention keeps it. -/
theorem State.Inv.of_frame {s t : State} (h : s.Inv)
    (ht : t = { s with
      panor := t.panor, rowor := t.rowor, row := t.row, swapPending := t.swapPending, wide := t.wide,
      tall := t.tall, wrap := t.wrap, gfxPanel := t.gfxPanel, animRegistered := t.animRegistered,
      animPeriod := t.animPeriod, animActive := t.animActive, animSavedHold := t.animSavedHold,
      commands := t.commands }) : t.Inv := by
  rw [ht]
  exact { h with }

theorem State.Inv.swap {s : State} (h : s.Inv) : s.swap.Inv :=
  { h with rolesDistinct := by simp [h.rolesDistinct] }

/-! ### The frame store and the replies -/

theorem State.Inv.writeLed {s : State} (h : s.Inv) (b : Buf) (p : Panel) (r idx : Fin 8) (px : Pixel) :
    (s.writeLed b p r idx px).Inv :=
  { h with
    memoryCanonical := State.writeLed_wf h.memoryCanonical b p r idx px
    wordsFit := State.writeLed_fits h.wordsFit b p r idx px }

theorem State.Inv.reply {s : State} (h : s.Inv) {v : Reply} (hv : v.fits s.depth = true) :
    (s.reply v).Inv :=
  { h with
    repliesFit := by
      rw [State.reply_replies, List.all_append, Bool.and_eq_true]
      exact ⟨h.repliesFit, by rw [List.all_cons, List.all_nil, Bool.and_true]; exact hv⟩ }

/-! ### The bus -/

/-- Events that respect the protocol from the current levels, appended to the trace, keep the trace's two
properties (R41, R223). -/
theorem State.Inv.trace_append {s : State} (h : s.Inv) {es : List PinEvent}
    (hes : protocolOk s.pins es = true) :
    Pins.reset.after (s.trace ++ es) = s.pins.after es ∧
      protocolOk Pins.reset (s.trace ++ es) = true := by
  rw [Pins.after_append, protocolOk_append, h.levelsFollowTrace, h.protocol, hes]
  exact ⟨rfl, rfl⟩

/-- `OE_N` may be written whenever `SCLK` is 0 (R223 point 1). -/
theorem protocolOk_oeN {p : Pins} (hclk : p.sclk = false) (v : Bool) :
    protocolOk p [.oeN v] = true := by
  simp [protocolOk, eventAllowed, hclk]

theorem State.Inv.setBlankHold {s : State} (h : s.Inv) (v : Bool) : (s.setBlankHold v).Inv :=
  have ⟨hclk, _, _⟩ := h.busIdle
  have ⟨hlevels, hprotocol⟩ := h.trace_append (protocolOk_oeN hclk (s.blankSeq || v))
  { h with
    blankSeqUntilFirstStep := by simp [h.blankSeqUntilFirstStep, PinEvent.isLatch]
    outputEnable := rfl
    levelsFollowTrace := hlevels
    protocol := hprotocol }

/-! ### Entry and exit of an animation invocation -/

theorem State.Inv.enterAnimation {s : State} (h : s.Inv) : s.enterAnimation.Inv := by
  have saved : ({ s with animSavedHold := s.blankHold } : State).Inv := h.of_frame rfl
  by_cases hold : s.blankHold = true
  · simp only [State.enterAnimation, if_pos hold]
    exact saved.of_frame rfl
  · simp only [State.enterAnimation, if_neg hold]
    exact (saved.setBlankHold true).of_frame rfl

theorem State.Inv.exitAnimation {s : State} (h : s.Inv) (done : Bool) : (s.exitAnimation done).Inv := by
  cases done with
  | false => exact (h.setBlankHold s.animSavedHold).of_frame rfl
  | true =>
    have asked : s.requestDeferredSwap.Inv := h.of_frame rfl
    exact (asked.setBlankHold s.animSavedHold).of_frame rfl

/-! ### The refresh step -/

/-- The pins after a refresh step are those its events leave. -/
theorem State.after_refreshEvents (s : State) : s.pins.after s.refreshEvents = s.afterRefresh.pins := by
  rw [State.refreshEvents, Pins.after_append, State.afterRefresh, State.advance_pins]
  rfl

/-- The events of a refresh step on an idle bus respect the protocol (R223). -/
theorem protocolOk_refreshEvents (s : State) {p : Pins} (hclk : p.sclk = false)
    (hlatch : p.latch = false) : protocolOk p s.refreshEvents = true := by
  obtain ⟨-, -, hbits⟩ := clockBits_bus s.serialFrame hclk
  obtain ⟨-, -, hlatchEvents⟩ :=
    latchEvents_bus s (p := { p with sclk := false, sdata := false }) rfl hlatch
  rw [State.refreshEvents, protocolOk_append, Pins.after_clockBits _ _ s.serialFrame_ne_nil, hbits,
    hlatchEvents]
  rfl

/-- A refresh step writes `LATCH` (R225). -/
theorem any_isLatch_refreshEvents (s : State) : s.refreshEvents.any PinEvent.isLatch = true := by
  simp [State.refreshEvents, State.latchEvents, PinEvent.isLatch]

theorem State.afterRefresh_depth (s : State) : s.afterRefresh.depth = s.depth := by
  rw [s.afterRefresh_frame]
  rfl

/-- R36 point 1: a boundary swap exchanges distinct roles. -/
theorem State.Inv.afterRefresh_roles {s : State} (h : s.Inv) :
    s.afterRefresh.animateIndex = s.afterRefresh.displayIndex.other := by
  have hroles := h.rolesDistinct
  rcases s.afterRefresh_cases with ⟨_, e⟩ | ⟨_, _, e⟩ | ⟨_, _, _, e⟩ | ⟨_, _, _, e⟩
  · rw [e]; exact hroles
  · rw [e]; exact hroles
  · rw [e]; exact hroles
  · rw [e]; simp [hroles]

/-- R36 point 2: the sub-cycle rises below `N - 1` and wraps at it. -/
theorem State.Inv.afterRefresh_subCycle {s : State} (h : s.Inv) :
    s.afterRefresh.subCycle < s.depth.levels := by
  have hrange := h.subCycleInRange
  rcases s.afterRefresh_cases with ⟨_, e⟩ | ⟨_, _, e⟩ | ⟨_, _, _, e⟩ | ⟨_, _, _, e⟩
  · rw [e]; exact hrange
  · rw [e]; show s.subCycle + 1 < _; omega
  · rw [e]; exact Depth.levels_pos _
  · rw [e]; exact Depth.levels_pos _

theorem State.Inv.afterRefresh {s : State} (h : s.Inv) : s.afterRefresh.Inv := by
  obtain ⟨hclk, _, hlatch⟩ := h.busIdle
  obtain ⟨hlevels, hprotocol⟩ := h.trace_append (protocolOk_refreshEvents s hclk hlatch)
  have hfs : s.afterRefresh.fs = s.fs := by rw [s.afterRefresh_frame]
  have hreplies : s.afterRefresh.replies = s.replies := by rw [s.afterRefresh_frame]
  exact {
    rolesDistinct := h.afterRefresh_roles
    subCycleInRange := s.afterRefresh_depth ▸ h.afterRefresh_subCycle
    memoryCanonical := hfs ▸ h.memoryCanonical
    wordsFit := by rw [hfs, s.afterRefresh_depth]; exact h.wordsFit
    repliesFit := by rw [hreplies, s.afterRefresh_depth]; exact h.repliesFit
    blankSeqUntilFirstStep := by
      rw [s.afterRefresh_blankSeq, s.afterRefresh_trace, List.any_append, any_isLatch_refreshEvents,
        Bool.or_true, Bool.not_true]
    busIdle := by rw [s.afterRefresh_pins]; exact ⟨rfl, rfl, rfl⟩
    outputEnable := by
      rw [s.afterRefresh_pins, s.afterRefresh_blankSeq, s.afterRefresh_blankHold, Bool.false_or]
    levelsFollowTrace := by rw [s.afterRefresh_trace, hlevels, s.after_refreshEvents]
    protocol := by rw [s.afterRefresh_trace, hprotocol] }

/-! ### Every command and every step -/

theorem Effect.keeps_inv {s t : State} {i : Instr} (effect : Effect s i t) (h : s.Inv) : t.Inv := by
  cases effect with
  | unchanged => exact h
  | drawn _ role p r idx px => exact h.writeLed (s.buf role) p r idx px
  | replied _ v hv => exact h.reply (hv h.wordsFit)
  | panelOriented b p o => exact h.of_frame rfl
  | rowOriented b p r o => exact h.of_frame rfl
  | modeSet w t x => exact h.of_frame rfl
  | panelChosen p => exact h.of_frame rfl
  | swapped => exact h.swap
  | swapRequested => exact h.of_frame rfl
  | blanked on => exact h.setBlankHold on
  | registered present period => exact h.of_frame rfl
  | entered => exact h.enterAnimation
  | exited done => exact h.exitAnimation done
  | refreshed => exact h.afterRefresh

/-- R36, R40, R223: a command keeps the invariant, from any state that has it. -/
theorem exec_keeps_inv {s t : State} {i : Instr} (h : s.Inv) (ht : exec i s = .next t) : t.Inv :=
  (effect_of_exec ht).keeps_inv h

/-- Settles O10: the block waits, or a command runs with its word taken off; both keep the invariant. -/
theorem stepKeepsInvariant : Obligations.StepKeepsInvariant := by
  intro s t h ht
  rcases step_cases ht with rfl | ⟨i, hi⟩
  · exact h
  · have taken : s.takeCommand.Inv := h.of_frame rfl
    exact exec_keeps_inv taken hi

/-- Settles O9: nothing is listed, sent or driven yet, and sub-cycle 0 is in range at either depth. -/
theorem resetHasInvariant : Obligations.ResetHasInvariant := fun _ => {
  rolesDistinct := rfl
  subCycleInRange := Depth.levels_pos _
  memoryCanonical := rfl
  wordsFit := rfl
  repliesFit := rfl
  blankSeqUntilFirstStep := rfl
  busIdle := ⟨rfl, rfl, rfl⟩
  outputEnable := rfl
  levelsFollowTrace := rfl
  protocol := rfl }

end Sys2Proof.Machine
end

section
/-! ## Who writes each register (R35, column W) -/

namespace Sys2Proof.Machine

open Sys2Proof

/-- R35: a refresh step sets no pending request; at most it performs the one there is. -/
theorem State.afterRefresh_swapPending {s : State} (h : s.swapPending = false) :
    s.afterRefresh.swapPending = false := by
  rcases s.afterRefresh_cases with ⟨_, e⟩ | ⟨_, _, e⟩ | ⟨_, _, _, e⟩ | ⟨_, _, _, e⟩
  · rw [e]; exact h
  · rw [e]; exact h
  · rw [e]; exact h
  · rw [e]

/-- Settles O58: each effect writes registers of its own command only, as its frame shows. -/
theorem registersHaveTheirWriters : Obligations.RegistersHaveTheirWriters := by
  intro s t i h
  cases effect_of_exec h with
  | unchanged => simp +contextual
  | drawn _ role p r idx px => rw [State.writeLed_frame]; simp +contextual
  | replied _ v _ => simp +contextual
  | panelOriented b p o => simp +contextual
  | rowOriented b p r o => simp +contextual
  | modeSet w t x => simp +contextual
  | panelChosen p => simp +contextual
  | swapped => simp +contextual
  | swapRequested => simp
  | blanked on => simp +contextual
  | registered present period => simp +contextual
  | entered => rw [State.enterAnimation_spec]; simp +contextual
  | exited done => rw [State.exitAnimation_spec]; simp +contextual
  | refreshed =>
    have noRequest := State.afterRefresh_swapPending (s := s)
    rw [State.afterRefresh_frame]
    simp +contextual [noRequest]

/-! ## The reset values (R50) -/

/-- Settles O8: the memory lists no word, every flag of the tables is `UP`, the rest is as written. -/
theorem resetValues : Obligations.ResetValues := by
  intro build
  have panels : ∀ b p, (State.resetWith build).panorAt b p = .up := fun b p => by
    simp [State.panorAt, State.resetWith, Vector.get_eq_getElem]
  have rows : ∀ b p r, (State.resetWith build).roworAt b p r = .up := fun b p r => by
    simp [State.roworAt, State.resetWith, Vector.get_eq_getElem]
  exact ⟨_, rfl, rfl, fun _ _ _ _ => rfl, panels, rows, rfl, rfl, rfl, rfl, rfl, rfl, rfl, rfl, rfl, rfl,
    rfl, rfl, rfl, rfl, rfl, rfl, rfl, rfl, rfl, rfl, rfl⟩

end Sys2Proof.Machine
end

section
/-! ## The external chain after a refresh step (R45, R233) -/

namespace Sys2Proof.Machine

open Sys2Proof

/-- Serial bits return the pins the chain sees to an idle bus, without a latch. -/
theorem Chain.run_clockBits_idle {c : Chain} (hclk : c.pins.sclk = false) (hlatch : c.pins.latch = false)
    (bits : List Bool) :
    (c.run (bits.flatMap clockBit)).pins.sclk = false ∧
      (c.run (bits.flatMap clockBit)).pins.latch = false := by
  rw [Chain.run_pins]
  rcases bits with _ | ⟨b, rest⟩
  · exact ⟨hclk, hlatch⟩
  · rw [Pins.after_clockBits _ _ (by simp)]
    exact ⟨rfl, hlatch⟩

/-- The chain holds the serial bits it took, the last one in stage 0. -/
theorem Chain.stages_run_clockBits {c : Chain} (hclk : c.pins.sclk = false)
    (hlatch : c.pins.latch = false) (bits : List Bool) {j : Nat} (hj : j < bits.length)
    (hstage : j < 120) :
    bits.reverse[j]? = some ((c.run (bits.flatMap clockBit)).stages.getLsbD j) := by
  induction bits using List.reverseRecOn generalizing j with
  | nil => exact absurd hj (by simp)
  | append_singleton bits b ih =>
    obtain ⟨hclk', hlatch'⟩ := c.run_clockBits_idle hclk hlatch bits
    obtain ⟨hstages, -⟩ := Chain.run_clockBit hclk' hlatch' b
    rw [List.flatMap_append, List.flatMap_singleton, Chain.run_append, hstages,
      BitVec.getLsbD_shiftConcat, List.reverse_append, List.reverse_singleton,
      List.singleton_append]
    cases j with
    | zero => simp
    | succ j =>
      rw [List.length_append, List.length_singleton] at hj
      simp [hstage, ih (j := j) (by omega) (by omega)]

/-- A refresh step on an idle bus leaves the serial frame in the output register, bit 0 in the last
stage. -/
theorem Chain.outreg_run_refreshEvents (s : State) {c : Chain} (hclk : c.pins.sclk = false)
    (hlatch : c.pins.latch = false) {k : Nat} (hk : k < 120) :
    s.serialFrame[k]? = some ((c.run s.refreshEvents).outreg.getLsbD (119 - k)) := by
  obtain ⟨hclk', hlatch'⟩ := c.run_clockBits_idle hclk hlatch s.serialFrame
  obtain ⟨houtreg, -⟩ := Chain.run_latchEvents s hclk' hlatch'
  rw [State.refreshEvents, Chain.run_append, houtreg,
    ← Chain.stages_run_clockBits hclk hlatch _ (by simp; omega) (by omega),
    List.getElem?_reverse (by simp; omega), State.length_serialFrame]
  congr 1
  omega

/-- Settles O41: the 120 serial bits fill the chain, the latch copies it, and the pins follow the
block's events. -/
theorem chainShowsSerialFrame : Obligations.ChainShowsSerialFrame := by
  intro s c hpins hclk hlatch
  refine ⟨_, s.refreshEvents, exec_refreshStep s, s.afterRefresh_trace, ?_, fun k hk =>
    Chain.outreg_run_refreshEvents s (hpins ▸ hclk) (hpins ▸ hlatch) hk⟩
  rw [Chain.run_pins, hpins, s.after_refreshEvents]

end Sys2Proof.Machine
end

section
/-! # Proofs of the memory family (20_memory)

## The displayed buffer (R69, R180)

`sameContents` is what the access discipline protects: one lemma per operation says when the operation
keeps it, and `exec_keeps_display` joins them over the commands. -/

namespace Sys2Proof.Machine

open Sys2Proof

/-- Two states hold the same plane words and the same flags of orientation in a buffer. -/
def sameContents (s t : State) (b : Buf) : Prop :=
  sameWords s t b ∧ (∀ p, t.panorAt b p = s.panorAt b p) ∧ ∀ p r, t.roworAt b p r = s.roworAt b p r

/-! ### Contents of a buffer -/

theorem sameContents.trans {s t u : State} {b : Buf} (hst : sameContents s t b)
    (htu : sameContents t u b) : sameContents s u b := by
  obtain ⟨words, panels, rows⟩ := hst
  obtain ⟨words', panels', rows'⟩ := htu
  exact ⟨fun p r c => (words' p r c).trans (words p r c), fun p => (panels' p).trans (panels p),
    fun p r => (rows' p r).trans (rows p r)⟩

/-- An update that keeps the store and both tables of flags keeps the contents of every buffer. -/
theorem sameContents.of_frame {s t : State} (hfs : t.fs = s.fs) (hpanor : t.panor = s.panor)
    (hrowor : t.rowor = s.rowor) (b : Buf) : sameContents s t b :=
  ⟨State.fsRead_congr hfs b, fun _ => by rw [State.panorAt, State.panorAt, hpanor],
    fun _ _ => by rw [State.roworAt, State.roworAt, hrowor]⟩

theorem sameContents.refl (s : State) (b : Buf) : sameContents s s b := .of_frame rfl rfl rfl b

/-- Writing an LED of another buffer. -/
theorem State.sameContents_writeLed (s : State) {b b' : Buf} (hb : b ≠ b') (p : Panel)
    (r idx : Fin 8) (px : Pixel) : sameContents s (s.writeLed b p r idx px) b' :=
  ⟨fun _ _ c => s.fsRead_writeLed_other (fun same => hb same.1.symm) idx px c, fun _ => rfl,
    fun _ _ => rfl⟩

/-- Orienting a Panel of another buffer. -/
theorem State.sameContents_setPanelOrient (s : State) {b b' : Buf} (hb : b ≠ b') (p : Panel)
    (o : Orient) : sameContents s ((s.setPanor b p o).setAllRowor b p o) b' := by
  refine ⟨fun _ _ _ => rfl, fun q => ?_, fun q r => ?_⟩
  · exact (s.panorAt_setPanor b b' p q o).trans (if_neg fun same => hb same.1.symm)
  · rw [State.roworAt_setAllRowor, if_neg fun same => hb same.1.symm]
    rfl

/-- Orienting a Row of another buffer. -/
theorem State.sameContents_setRowor (s : State) {b b' : Buf} (hb : b ≠ b') (p : Panel) (r : Fin 8)
    (o : Orient) : sameContents s (s.setRowor b p r o) b' :=
  ⟨fun _ _ _ => rfl, fun _ => rfl, fun q r' => by
    rw [State.roworAt_setRowor, if_neg fun same => hb same.1.symm]⟩

/-! ### Every command -/

/-- A command has one outcome. -/
theorem eq_of_exec {s t u : State} {i : Instr} (hu : exec i s = .next u) (ht : exec i s = .next t) :
    u = t := by
  rw [hu] at ht
  injection ht

/-- R262: a draw without a target changes nothing. -/
theorem exec_drawPixel_dropped {s : State} {x y : BitVec 16} (h : s.drawTarget x.toInt y.toInt = none)
    (c : ColorWord) : exec (.drawPixel x y c) s = .next s := by
  simp only [exec, execDrawPixel, h]

/-- R260: a draw with a target writes that LED of the ANIMATE buffer. -/
theorem exec_drawPixel_drawn {s : State} {x y : BitVec 16} {place : LedPlace}
    (h : s.drawTarget x.toInt y.toInt = some place) (c : ColorWord) :
    exec (.drawPixel x y c) s = .next
      (s.writeLed s.animateIndex place.panel place.row place.idx (unpackColor s.depth c)) := by
  simp only [exec, execDrawPixel, h, State.buf]

/-- R69: a command that does not address the displayed buffer keeps its contents. -/
theorem exec_keeps_display {s t : State} {i : Instr} (hroles : s.animateIndex ≠ s.displayIndex)
    (h : exec i s = .next t) (quiet : disturbsDisplay s i = false) :
    sameContents s t s.displayIndex := by
  cases i with
  | setLedPixel role p r idx cr cg cb =>
    obtain rfl := eq_of_exec rfl h
    exact s.sameContents_writeLed (beq_eq_false_iff_ne.1 quiet) p r idx _
  | setLedColor role p r idx c =>
    obtain rfl := eq_of_exec rfl h
    exact s.sameContents_writeLed (beq_eq_false_iff_ne.1 quiet) p r idx _
  | drawPixel x y c =>
    cases target : s.drawTarget x.toInt y.toInt with
    | none =>
      obtain rfl := eq_of_exec (exec_drawPixel_dropped target c) h
      exact .refl s _
    | some place =>
      obtain rfl := eq_of_exec (exec_drawPixel_drawn target c) h
      exact s.sameContents_writeLed hroles place.panel place.row place.idx _
  | setPanelOrient b p o =>
    obtain rfl := eq_of_exec rfl h
    exact s.sameContents_setPanelOrient (beq_eq_false_iff_ne.1 quiet) p o
  | setRowOrient b p r o =>
    obtain rfl := eq_of_exec rfl h
    exact s.sameContents_setRowor (beq_eq_false_iff_ne.1 quiet) p r o
  | requestSwap immediate =>
    obtain rfl : immediate = false := quiet
    obtain rfl := eq_of_exec rfl h
    exact .of_frame rfl rfl rfl _
  | animEnter =>
    obtain rfl := eq_of_exec rfl h
    split
    · rw [State.enterAnimation_spec]
      exact .of_frame rfl rfl rfl _
    · exact .refl s _
  | animExit done =>
    obtain rfl := eq_of_exec rfl h
    split
    · rw [State.exitAnimation_spec]
      exact .of_frame rfl rfl rfl _
    · exact .refl s _
  | refreshStep =>
    obtain rfl := eq_of_exec (exec_refreshStep s) h
    rw [s.afterRefresh_frame]
    exact .of_frame rfl rfl rfl _
  | _ =>
    obtain rfl := eq_of_exec rfl h
    exact .of_frame rfl rfl rfl _

/-- Settles O56. -/
theorem displayChangesOnlyWhenAddressed : Obligations.DisplayChangesOnlyWhenAddressed :=
  fun _ _ _ hroles h quiet => exec_keeps_display hroles h quiet

end Sys2Proof.Machine
end

section
/-! ## A cycle reads one frame (R69, R77)

The measure is `State.stepsToBoundary` (R187): a refresh step short of the boundary takes one from it, and
no other command moves it. -/

namespace Sys2Proof.Machine

open Sys2Proof

/-- R354: no command changes the build, so none changes the depth. -/
theorem Effect.keeps_build {s t : State} {i : Instr} (effect : Effect s i t) : t.build = s.build := by
  cases effect with
  | entered => rw [State.enterAnimation_spec]
  | exited done => rw [State.exitAnimation_spec]
  | refreshed => rw [State.afterRefresh_frame]
  | _ => rfl

/-- R187, R230: short of the boundary a refresh step comes one step nearer to it and swaps nothing. -/
theorem State.afterRefresh_before_boundary {s : State} (hrange : s.subCycle < s.depth.levels)
    (hfar : 1 < s.stepsToBoundary) :
    s.afterRefresh.displayIndex = s.displayIndex ∧
      s.afterRefresh.stepsToBoundary + 1 = s.stepsToBoundary := by
  have hdepth := s.afterRefresh_depth
  have hlast : s.row = 7 → s.row.val = 7 := congrArg Fin.val
  simp only [State.stepsToBoundary, hdepth] at hfar ⊢
  rcases s.afterRefresh_cases with ⟨hrow, e⟩ | ⟨hrow, hsub, e⟩ | ⟨hrow, hsub, -⟩ | ⟨hrow, hsub, -⟩
  · have hnext : (s.row + 1).val = s.row.val + 1 := Fin.val_add_one_of_lt' (by omega)
    rw [e]
    exact ⟨rfl, by dsimp only; omega⟩
  · have := hlast hrow
    rw [e]
    exact ⟨rfl, by dsimp only [Fin.val_zero]; omega⟩
  · have := hlast hrow
    omega
  · have := hlast hrow
    omega

/-- R335: a host command that does not swap the roles leaves the displayed role and the place in the
cycle. -/
theorem exec_host_keeps_cycle {s t : State} {i : Instr} (h : exec i s = .next t)
    (hrefresh : i ≠ .refreshStep) (hswap : i ≠ .requestSwap true) :
    t.displayIndex = s.displayIndex ∧ t.stepsToBoundary = s.stepsToBoundary := by
  obtain ⟨scan, roles, -⟩ := registersHaveTheirWriters s t i h
  have hscan := not_imp_comm.1 scan hrefresh
  have hroles := not_imp_comm.1 roles (by simp [hrefresh, hswap])
  simp only [Prod.mk.injEq] at hscan hroles
  obtain ⟨hsub, hrow, -⟩ := hscan
  have hdepth : t.depth = s.depth := by
    rw [State.depth, State.depth, (effect_of_exec h).keeps_build]
  exact ⟨hroles.1, by rw [State.stepsToBoundary, State.stepsToBoundary, hdepth, hsub, hrow]⟩

/-- One command of a run that ends short of the boundary, with `n` refresh steps still to come: the
displayed role stays, and `n` is still short of the boundary. -/
theorem exec_before_boundary {s t : State} {i : Instr} {n : Nat} (hs : s.Inv) (h : exec i s = .next t)
    (quiet : disturbsDisplay s i = false)
    (hfar : n + (if i = .refreshStep then 1 else 0) < s.stepsToBoundary) :
    t.displayIndex = s.displayIndex ∧ n < t.stepsToBoundary := by
  by_cases hi : i = .refreshStep
  · subst hi
    rw [if_pos rfl] at hfar
    obtain rfl := eq_of_exec (exec_refreshStep s) h
    obtain ⟨role, nearer⟩ := State.afterRefresh_before_boundary hs.subCycleInRange (by omega)
    exact ⟨role, by omega⟩
  · rw [if_neg hi] at hfar
    have hswap : i ≠ .requestSwap true := by
      rintro rfl
      cases quiet
    obtain ⟨role, place⟩ := exec_host_keeps_cycle h hi hswap
    exact ⟨role, by omega⟩

/-- R69, R77: as long as a run has fewer refresh steps than the boundary is away and disturbs no display,
the displayed buffer and its contents stay. -/
theorem execAll_keeps_display {cs : List Instr} {s : State} (hs : s.Inv) (quiet : undisturbed cs s)
    (hcount : cs.count .refreshStep < s.stepsToBoundary) :
    ∃ t, execAll cs s = .next t ∧ t.displayIndex = s.displayIndex ∧
      sameContents s t s.displayIndex := by
  induction cs generalizing s with
  | nil => exact ⟨s, rfl, rfl, .refl s _⟩
  | cons i rest ih =>
    obtain ⟨quietHead, quietRest⟩ := quiet
    obtain ⟨u, hu, -⟩ := exec_effect s i
    simp only [List.count_cons, beq_iff_eq] at hcount
    obtain ⟨role, hrest⟩ := exec_before_boundary hs hu quietHead hcount
    have hroles : s.animateIndex ≠ s.displayIndex := hs.rolesDistinct ▸ Buf.other_ne _
    obtain ⟨t, ht, role', kept⟩ := ih (exec_keeps_inv hs hu) (quietRest u hu) hrest
    refine ⟨t, ?_, role'.trans role, (exec_keeps_display hroles hu quietHead).trans (role ▸ kept)⟩
    simp only [execAll, hu, ht]

/-- Settles O40: at (0, 0) the boundary is the whole cycle of `8 N` steps away. -/
theorem cycleIntegrity : Obligations.CycleIntegrity := by
  intro s cs hs hsub hrow quiet hcount
  have hpos := Depth.levels_pos s.depth
  have whole : s.stepsToBoundary = 8 * s.depth.levels := by
    rw [State.stepsToBoundary, hsub, hrow, Fin.val_zero]
    omega
  obtain ⟨t, ht, role, words, panels, -⟩ := execAll_keeps_display hs quiet (whole ▸ hcount)
  exact ⟨t, ht, role, words, panels⟩

end Sys2Proof.Machine
end

section
/-! ## Commands that may be repeated (R65) -/

namespace Sys2Proof.Machine

open Sys2Proof

/-! ### Flags of orientation -/

theorem State.setPanor_setPanor (s : State) (b : Buf) (p : Panel) (o : Orient) :
    (s.setPanor b p o).setPanor b p o = s.setPanor b p o := by
  simp only [State.setPanor, Vector.get_set_eq, if_true, Vector.set_set]

theorem State.setAllRowor_setAllRowor (s : State) (b : Buf) (p : Panel) (o : Orient) :
    (s.setAllRowor b p o).setAllRowor b p o = s.setAllRowor b p o := by
  simp only [State.setAllRowor, Vector.get_set_eq, if_true, Vector.set_set]

/-- R165: orienting a Panel again finds its flag and its eight Rows' flags as they are to be. -/
theorem State.setPanelOrient_again (s : State) (b : Buf) (p : Panel) (o : Orient) :
    (((s.setPanor b p o).setAllRowor b p o).setPanor b p o).setAllRowor b p o =
      (s.setPanor b p o).setAllRowor b p o :=
  calc (((s.setPanor b p o).setAllRowor b p o).setPanor b p o).setAllRowor b p o
    _ = (((s.setPanor b p o).setPanor b p o).setAllRowor b p o).setAllRowor b p o := rfl
    _ = (s.setPanor b p o).setAllRowor b p o := by
      rw [State.setAllRowor_setAllRowor, State.setPanor_setPanor]

theorem State.setRowor_setRowor (s : State) (b : Buf) (p : Panel) (r : Fin 8) (o : Orient) :
    (s.setRowor b p r o).setRowor b p r o = s.setRowor b p r o := by
  simp only [State.setRowor, Vector.get_set_eq, if_true, Vector.set_set]

/-! ### One LED -/

/-- Putting the same level into the same field again changes nothing, also where the word was cut to `PW`
bits in between (R12, R152). -/
theorem withField_withField {d : Depth} (w : PlaneWord) (p : Fin 8) {v : Level}
    (hv : v &&& d.mask = v) :
    withField d (withField d w p v &&& d.planeMask) p v &&& d.planeMask =
      withField d w p v &&& d.planeMask := by
  apply BitVec.eq_of_getLsbD_eq
  intro j _
  simp only [BitVec.getLsbD_and, getLsbD_withField _ p hv]
  split <;> simp

/-- The words of a Row after an LED was written: its field of each plane replaced (R152). -/
theorem State.fsRead_writeLed_same {s : State} (h : s.fs.wf = true) (b : Buf) (p : Panel)
    (r idx : Fin 8) (px : Pixel) (c : Chan) :
    (s.writeLed b p r idx px).fsRead b p r c =
      withField s.depth (s.fsRead b p r c) (s.ledField b p r idx) (px.chan c) &&&
        s.depth.planeMask := by
  have hred := State.writeField_wf h b p r (s.ledField b p r idx) .red px.r
  have hgreen := State.writeField_wf hred b p r (s.ledField b p r idx) .green px.g
  unfold State.writeLed
  cases c with
  | red =>
    rw [State.fsRead_writeField_plane _ _ _ _ _ (by decide),
      State.fsRead_writeField_plane _ _ _ _ _ (by decide), State.writeField,
      State.fsRead_fsWrite_same h]
    rfl
  | green =>
    rw [State.fsRead_writeField_plane _ _ _ _ _ (by decide), State.writeField,
      State.fsRead_fsWrite_same hred, State.fsRead_writeField_plane _ _ _ _ _ (by decide)]
    rfl
  | blue =>
    rw [State.writeField, State.fsRead_fsWrite_same hgreen,
      State.fsRead_writeField_plane _ _ _ _ _ (by decide),
      State.fsRead_writeField_plane _ _ _ _ _ (by decide)]
    rfl

/-- R65, R152: writing an LED again with the same Pixel changes nothing. -/
theorem State.writeLed_writeLed {s : State} (h : s.fs.wf = true) (b : Buf) (p : Panel)
    (r idx : Fin 8) {px : Pixel} (hpx : px.masked s.depth) :
    (s.writeLed b p r idx px).writeLed b p r idx px = s.writeLed b p r idx px := by
  have once := State.writeLed_wf h b p r idx px
  have sameList : ((s.writeLed b p r idx px).writeLed b p r idx px).fs =
      (s.writeLed b p r idx px).fs := by
    refine Memory.eq_of_read (State.writeLed_wf once b p r idx px) once fun a => ?_
    by_cases ha : ∀ c, a ≠ wordNumber b p r c
    · exact State.read_writeLed_other _ b p r idx px ha
    · obtain ⟨c, rfl⟩ : ∃ c, a = wordNumber b p r c := by simpa using ha
      have word := State.fsRead_writeLed_same once b p r idx px c
      rw [State.fsRead_writeLed_same h] at word
      exact word.trans ((withField_withField _ _ (hpx c)).trans
        (State.fsRead_writeLed_same h b p r idx px c).symm)
  rw [State.writeLed_frame (s.writeLed b p r idx px), sameList]

/-! ### The commands -/

/-- A command that applies `f` may be repeated where `f` is idempotent. -/
theorem exec_again {s t : State} {i : Instr} {f : State → State} (hf : ∀ u, exec i u = .next (f u))
    (idem : f (f s) = f s) (h : exec i s = .next t) : exec i t = .next t := by
  obtain rfl := eq_of_exec (hf s) h
  rw [hf, idem]

/-- R65: a draw again finds the same target and writes it as before. -/
theorem exec_drawPixel_again {s t : State} (hs : s.fs.wf = true) {x y : BitVec 16} {c : ColorWord}
    (h : exec (.drawPixel x y c) s = .next t) : exec (.drawPixel x y c) t = .next t := by
  cases target : s.drawTarget x.toInt y.toInt with
  | none =>
    obtain rfl := eq_of_exec (exec_drawPixel_dropped target c) h
    exact h
  | some place =>
    obtain rfl := eq_of_exec (exec_drawPixel_drawn target c) h
    refine (exec_drawPixel_drawn (s := s.writeLed ..) target c).trans (congrArg _ ?_)
    exact State.writeLed_writeLed hs _ _ _ _ (unpackColor_masked s.depth c)

/-- Settles O60: each command stores values that do not depend on what they replace. -/
theorem repeatingChangesNothing : Obligations.RepeatingChangesNothing := by
  intro s t i hs h
  have canonical := hs.memoryCanonical
  constructor
  · rintro (⟨b, p, o, rfl⟩ | ⟨b, p, r, o, rfl⟩ | ⟨w, tl, x, rfl⟩ | ⟨p, rfl⟩ |
      ⟨q, p, r, x, cr, cg, cb, rfl⟩ | ⟨q, p, r, x, c, rfl⟩ | ⟨x, y, c, rfl⟩ | ⟨f, n, rfl⟩ | rfl)
    · exact exec_again (fun _ => rfl) (s.setPanelOrient_again b p o) h
    · exact exec_again (fun _ => rfl) (s.setRowor_setRowor b p r o) h
    · exact exec_again (fun _ => rfl) rfl h
    · exact exec_again (fun _ => rfl) rfl h
    · exact exec_again (fun _ => rfl)
        (State.writeLed_writeLed canonical _ p r x (pixelOf_masked _ cr cg cb)) h
    · exact exec_again (fun _ => rfl)
        (State.writeLed_writeLed canonical _ p r x (unpackColor_masked _ c)) h
    · exact exec_drawPixel_again canonical h
    · exact exec_again (fun _ => rfl) rfl h
    · exact exec_again (fun _ => rfl) rfl h
  · rintro on rfl
    obtain rfl := eq_of_exec rfl h
    rfl

end Sys2Proof.Machine
end

section
/-! ## One step, and the commands that only read (R65 to R68) -/

namespace Sys2Proof.Machine

open Sys2Proof

/-- Settles O5: the next word leaves the stream and its command runs. -/
theorem stepRunsDecodedCommand : Obligations.StepRunsDecodedCommand := by
  intro s w rest i hcommands hdecode
  simp only [step, State.nextCommand, State.takeCommand, hcommands, List.head?_cons, List.tail_cons,
    hdecode]

/-- Settles O59: each of the nine commands ends in `State.reply`. -/
theorem readersChangeNothing : Obligations.ReadersChangeNothing := by
  rintro s i (⟨b, p, r, rfl⟩ | ⟨q, p, r, x, rfl⟩ | ⟨q, p, r, rfl⟩ | ⟨q, p, r, rfl⟩ | ⟨x, y, c, rfl⟩ |
    ⟨r, g, b, rfl⟩ | ⟨c, rfl⟩ | ⟨r, g, b, rfl⟩ | ⟨r, g, b, r', g', b', rfl⟩) <;>
  exact ⟨_, rfl⟩

end Sys2Proof.Machine
end

section
/-! # Proofs of the encoding family (30_encoding)

## Commands and their words (R100 to R102)

A command word is its eight bytes (`ofBytes`). The encoder writes each of them; the decoder reads a byte
as an operand, or a run of bytes that must be zero. -/

namespace Sys2Proof

/-! ### Runs of bytes that must be zero (R108) -/

/-- A run of `n` bytes from byte `a` up is zero when each of its bytes is. -/
theorem mustBeZero_bytes {w : CommandWord} (a n : Nat) (h : ∀ j < n, byteAt w (a + j) = 0) :
    mustBeZero (w.extractLsb' (8 * a) (8 * n)) = .ok () := by
  rw [slice_eq_zero (8 * a) (8 * n) _ (by omega) (by omega), mustBeZero_zero]
  intro k hlow hhigh
  have := h (k - a) (by omega)
  rwa [show a + (k - a) = k by omega] at this

/-- `mustBeZero_zero` for the form in which `simp` leaves a zero. -/
@[simp] theorem mustBeZero_ofNat_zero {n : Nat} : mustBeZero 0#n = .ok () := mustBeZero_zero

/-- A byte of a run that the decoder found to be zero; both bounds are about numerals. -/
theorem zeroByte {w : CommandWord} {start n k : Nat} {u : Unit}
    (h : mustBeZero (w.extractLsb' start n) = .ok u) (hlow : start ≤ 8 * k := by decide)
    (hhigh : 8 * k + 8 ≤ start + n := by decide) : byteAt w k = 0 :=
  byteAt_eq_zero (mustBeZero_ok h) hlow hhigh

section
variable (b7 b6 b5 b4 b3 b2 b1 b0 : BitVec 8)

/-! The runs of the formats of R101, each in a word where the encoder wrote zeros. -/

@[simp] theorem mustBeZero_bytes6to0 :
    mustBeZero ((ofBytes b7 0#8 0#8 0#8 0#8 0#8 0#8 0#8).extractLsb' 0 56) = .ok () :=
  mustBeZero_bytes 0 7 (fun j hj => by interval_cases j <;> simp)

@[simp] theorem mustBeZero_bytes4to0 :
    mustBeZero ((ofBytes b7 b6 b5 0#8 0#8 0#8 0#8 0#8).extractLsb' 0 40) = .ok () :=
  mustBeZero_bytes 0 5 (fun j hj => by interval_cases j <;> simp)

@[simp] theorem mustBeZero_bytes3to0 :
    mustBeZero ((ofBytes b7 b6 b5 b4 0#8 0#8 0#8 0#8).extractLsb' 0 32) = .ok () :=
  mustBeZero_bytes 0 4 (fun j hj => by interval_cases j <;> simp)

@[simp] theorem mustBeZero_bytes2to0 :
    mustBeZero ((ofBytes b7 b6 b5 b4 b3 0#8 0#8 0#8).extractLsb' 0 24) = .ok () :=
  mustBeZero_bytes 0 3 (fun j hj => by interval_cases j <;> simp)

@[simp] theorem mustBeZero_bytes6to1 :
    mustBeZero ((ofBytes b7 0#8 0#8 0#8 0#8 0#8 0#8 b0).extractLsb' 8 48) = .ok () :=
  mustBeZero_bytes 1 6 (fun j hj => by interval_cases j <;> simp)

@[simp] theorem mustBeZero_bytes6to2 :
    mustBeZero ((ofBytes b7 0#8 0#8 0#8 0#8 0#8 b1 b0).extractLsb' 16 40) = .ok () :=
  mustBeZero_bytes 2 5 (fun j hj => by interval_cases j <;> simp)

@[simp] theorem mustBeZero_bytes6to3 :
    mustBeZero ((ofBytes b7 0#8 0#8 0#8 0#8 b2 b1 b0).extractLsb' 24 32) = .ok () :=
  mustBeZero_bytes 3 4 (fun j hj => by interval_cases j <;> simp)

@[simp] theorem mustBeZero_bytes6to5 :
    mustBeZero ((ofBytes b7 0#8 0#8 b4 b3 b2 b1 b0).extractLsb' 40 16) = .ok () :=
  mustBeZero_bytes 5 2 (fun j hj => by interval_cases j <;> simp)

end

/-! ### From a command to its word and back -/

/-- Settles O1: the opcode byte selects the command's own arm of the decoder, every run the encoder left
empty is zero, and every operand reads back. -/
theorem decodeOfEncode : Obligations.DecodeOfEncode := by
  intro i
  cases i <;> simp [encode, decode, bind, Except.bind]

/-! ### From a word to its command and back -/

/-- `ofBytes_byteAt` with each byte given by an equation of its own. -/
theorem ofBytes_eq {w : CommandWord} {b7 b6 b5 b4 b3 b2 b1 b0 : BitVec 8}
    (h7 : byteAt w 7 = b7) (h6 : byteAt w 6 = b6) (h5 : byteAt w 5 = b5) (h4 : byteAt w 4 = b4)
    (h3 : byteAt w 3 = b3) (h2 : byteAt w 2 = b2) (h1 : byteAt w 1 = b1) (h0 : byteAt w 0 = b0) :
    ofBytes b7 b6 b5 b4 b3 b2 b1 b0 = w := by
  rw [← h7, ← h6, ← h5, ← h4, ← h3, ← h2, ← h1, ← h0, ofBytes_byteAt]

/-- `decode_bind_ok` with its converse: each field of a word that decodes was legal. -/
theorem bind_eq_ok_iff {α β : Type} {x : Except Illegal α} {f : α → Except Illegal β} {b : β} :
    (x >>= f) = .ok b ↔ ∃ a, x = .ok a ∧ f a = .ok b :=
  ⟨decode_bind_ok, by rintro ⟨a, rfl, h⟩; exact h⟩

/-- The bytes of the three 16-bit operands `x`, `y` and the colour (R101). -/
theorem ofBytes_coordinates {w : CommandWord} {op b6 : BitVec 8} (h7 : byteAt w 7 = op)
    (h6 : byteAt w 6 = b6) :
    ofBytes op b6 (hiByte (w.extractLsb' 32 16)) (loByte (w.extractLsb' 32 16))
      (hiByte (w.extractLsb' 16 16)) (loByte (w.extractLsb' 16 16))
      (hiByte (w.extractLsb' 0 16)) (loByte (w.extractLsb' 0 16)) = w :=
  ofBytes_eq h7 h6 (hiByte_slice w 4).symm (loByte_slice w 4).symm (hiByte_slice w 2).symm
    (loByte_slice w 2).symm (hiByte_slice w 0).symm (loByte_slice w 0).symm

/-- The bytes of the 32-bit operand `period` (R101). -/
theorem ofBytes_period {w : CommandWord} {op b6 b5 b4 : BitVec 8} (h7 : byteAt w 7 = op)
    (h6 : byteAt w 6 = b6) (h5 : byteAt w 5 = b5) (h4 : byteAt w 4 = b4) :
    ofBytes op b6 b5 b4 ((w.extractLsb' 0 32).extractLsb' 24 8)
      ((w.extractLsb' 0 32).extractLsb' 16 8) ((w.extractLsb' 0 32).extractLsb' 8 8)
      ((w.extractLsb' 0 32).extractLsb' 0 8) = w :=
  ofBytes_eq h7 h6 h5 h4 (byte_of_low32 w 3 (by decide)).symm (byte_of_low32 w 2 (by decide)).symm
    (byte_of_low32 w 1 (by decide)).symm (byte_of_low32 w 0 (by decide)).symm

/-- Settles O2: in the arm of the word's opcode, each byte was a legal operand, a byte of an operand
taken as it is, or a byte that must be zero; the encoder writes the same eight bytes. -/
theorem encodeOfDecode : Obligations.EncodeOfDecode := by
  intro w i h
  unfold decode at h
  split at h
  all_goals simp only [bind_eq_ok_iff, reduceCtorEq, Except.ok.injEq] at h
  -- NOP, ANIM_ENTER, REFRESH_STEP
  case h_1 hop | h_17 hop | h_19 hop =>
    obtain ⟨_, hzero, rfl⟩ := h
    exact ofBytes_eq (BitVec.eq_of_toNat_eq hop) (zeroByte hzero) (zeroByte hzero) (zeroByte hzero)
      (zeroByte hzero) (zeroByte hzero) (zeroByte hzero) (zeroByte hzero)
  -- SET_PANEL_ORIENT
  case h_2 hop =>
    obtain ⟨buf, hbuf, panel, hpanel, _, hgap, orient, horient, _, hzero, rfl⟩ := h
    exact ofBytes_eq (BitVec.eq_of_toNat_eq hop) (bufOf_ok hbuf) (panelOf_ok hpanel)
      (mustBeZero_ok hgap) (orientOf_ok horient) (zeroByte hzero) (zeroByte hzero) (zeroByte hzero)
  -- SET_ROW_ORIENT
  case h_3 hop =>
    obtain ⟨buf, hbuf, panel, hpanel, row, hrow, orient, horient, _, hzero, rfl⟩ := h
    exact ofBytes_eq (BitVec.eq_of_toNat_eq hop) (bufOf_ok hbuf) (panelOf_ok hpanel) (rowOf_ok hrow)
      (orientOf_ok horient) (zeroByte hzero) (zeroByte hzero) (zeroByte hzero)
  -- IS_ORIENTED_UP
  case h_4 hop =>
    obtain ⟨buf, hbuf, panel, hpanel, row, hrow, _, hzero, rfl⟩ := h
    exact ofBytes_eq (BitVec.eq_of_toNat_eq hop) (bufOf_ok hbuf) (panelOf_ok hpanel) (rowOf_ok hrow)
      (zeroByte hzero) (zeroByte hzero) (zeroByte hzero) (zeroByte hzero)
  -- SET_MODE
  case h_5 hop =>
    obtain ⟨_, hzero, flags, hflags, rfl⟩ := h
    exact ofBytes_eq (BitVec.eq_of_toNat_eq hop) (zeroByte hzero) (zeroByte hzero) (zeroByte hzero)
      (zeroByte hzero) (zeroByte hzero) (zeroByte hzero) (threeFlags_ok hflags)
  -- SET_GFX_PANEL
  case h_6 hop =>
    obtain ⟨_, hgap, panel, hpanel, _, hzero, rfl⟩ := h
    exact ofBytes_eq (BitVec.eq_of_toNat_eq hop) (mustBeZero_ok hgap) (panelOf_ok hpanel)
      (zeroByte hzero) (zeroByte hzero) (zeroByte hzero) (zeroByte hzero) (zeroByte hzero)
  -- SET_LED_PIXEL
  case h_7 hop =>
    obtain ⟨role, hrole, panel, hpanel, row, hrow, idx, hidx, rfl⟩ := h
    exact ofBytes_eq (BitVec.eq_of_toNat_eq hop) (roleOf_ok hrole) (panelOf_ok hpanel)
      (rowOf_ok hrow) (idxOf_ok hidx) rfl rfl rfl
  -- SET_LED_COLOR
  case h_8 hop =>
    obtain ⟨role, hrole, panel, hpanel, row, hrow, idx, hidx, _, hgap, rfl⟩ := h
    exact ofBytes_eq (BitVec.eq_of_toNat_eq hop) (roleOf_ok hrole) (panelOf_ok hpanel)
      (rowOf_ok hrow) (idxOf_ok hidx) (mustBeZero_ok hgap) (hiByte_slice w 0).symm
      (loByte_slice w 0).symm
  -- GET_LED
  case h_9 hop =>
    obtain ⟨role, hrole, panel, hpanel, row, hrow, idx, hidx, _, hzero, rfl⟩ := h
    exact ofBytes_eq (BitVec.eq_of_toNat_eq hop) (roleOf_ok hrole) (panelOf_ok hpanel)
      (rowOf_ok hrow) (idxOf_ok hidx) (zeroByte hzero) (zeroByte hzero) (zeroByte hzero)
  -- GET_ROW, GET_SHIFT_ROW
  case h_10 hop | h_11 hop =>
    obtain ⟨role, hrole, panel, hpanel, row, hrow, _, hzero, rfl⟩ := h
    exact ofBytes_eq (BitVec.eq_of_toNat_eq hop) (roleOf_ok hrole) (panelOf_ok hpanel)
      (rowOf_ok hrow) (zeroByte hzero) (zeroByte hzero) (zeroByte hzero) (zeroByte hzero)
  -- REQUEST_SWAP, SET_BLANK, ANIM_EXIT
  case h_12 hop | h_13 hop | h_18 hop =>
    obtain ⟨_, hzero, flag, hflag, rfl⟩ := h
    exact ofBytes_eq (BitVec.eq_of_toNat_eq hop) (zeroByte hzero) (zeroByte hzero) (zeroByte hzero)
      (zeroByte hzero) (zeroByte hzero) (zeroByte hzero) (oneFlag_ok hflag)
  -- DRAW_PIXEL, GET_TOP_NEIGHBOR
  case h_14 hop | h_15 hop =>
    obtain ⟨_, hgap, rfl⟩ := h
    exact ofBytes_coordinates (BitVec.eq_of_toNat_eq hop) (mustBeZero_ok hgap)
  -- ANIM_REGISTER
  case h_16 hop =>
    obtain ⟨_, hzero, present, hpresent, rfl⟩ := h
    exact ofBytes_period (BitVec.eq_of_toNat_eq hop) (zeroByte hzero) (zeroByte hzero)
      (presentOf_ok hpresent)
  -- PACK, PIXEL_NEW
  case h_20 hop | h_22 hop =>
    obtain ⟨_, hzero, rfl⟩ := h
    exact ofBytes_eq (BitVec.eq_of_toNat_eq hop) (zeroByte hzero) (zeroByte hzero) (zeroByte hzero)
      (zeroByte hzero) rfl rfl rfl
  -- UNPACK
  case h_21 hop =>
    obtain ⟨_, hzero, rfl⟩ := h
    exact ofBytes_eq (BitVec.eq_of_toNat_eq hop) (zeroByte hzero) (zeroByte hzero) (zeroByte hzero)
      (zeroByte hzero) (zeroByte hzero) (hiByte_slice w 0).symm (loByte_slice w 0).symm
  -- PIXEL_EQ
  case h_23 hop =>
    obtain ⟨_, hgap, rfl⟩ := h
    exact ofBytes_eq (BitVec.eq_of_toNat_eq hop) (mustBeZero_ok hgap) rfl rfl rfl rfl rfl rfl

/-! ### Which words are legal (R106, R108)

What the masks of the opcode map leave of a byte is a byte the encoder writes. -/

theorem bit_of_masked {b : BitVec 8} (h : b &&& 0xFE = 0) : b = 0 ∨ b = 1 := by
  revert b
  decide

theorem exists_bufCode {b : BitVec 8} (h : b &&& 0xFE = 0) : ∃ buf : Buf, b = buf.code :=
  (bit_of_masked h).elim (⟨.bufA, ·⟩) (⟨.bufB, ·⟩)

theorem exists_roleCode {b : BitVec 8} (h : b &&& 0xFE = 0) : ∃ role : Role, b = role.code :=
  (bit_of_masked h).elim (⟨.display, ·⟩) (⟨.animate, ·⟩)

theorem exists_orientCode {b : BitVec 8} (h : b &&& 0xFE = 0) : ∃ o : Orient, b = o.code :=
  (bit_of_masked h).elim (⟨.up, ·⟩) (⟨.down, ·⟩)

theorem exists_flagCode {b : BitVec 8} (h : b &&& 0xFE = 0) : ∃ f : Bool, b = flagCode f :=
  (bit_of_masked h).elim (⟨false, ·⟩) (⟨true, ·⟩)

theorem exists_indexCode {b : BitVec 8} (h : b &&& 0xF8 = 0) : ∃ i : Fin 8, b = indexCode i := by
  revert b
  decide

theorem exists_threeFlagsCode {b : BitVec 8} (h : b &&& 0xF8 = 0) :
    ∃ f g k : Bool, b = threeFlagsCode f g k := by
  revert b
  decide

/-- The limit 4 on the panel, which no mask can say (R106). -/
theorem exists_panelCode {b : BitVec 8} (h : b.toNat ≤ 4) : ∃ p : Panel, b = p.code := by
  have five : b = 0 ∨ b = 1 ∨ b = 2 ∨ b = 3 ∨ b = 4 := by bv_omega
  obtain h | h | h | h | h := five
  exacts [⟨.back, h⟩, ⟨.top, h⟩, ⟨.left, h⟩, ⟨.front, h⟩, ⟨.right, h⟩]

/-- What a row of the map says of each byte of a word it selects (R106). -/
theorem bytes_of_selects {row : OpcodeRow} {w : CommandWord} (h : row.selects w = true) :
    (∀ k, byteAt w k &&& byteAt row.mask k = byteAt row.pattern k) ∧
      (row.hasPanel = true → (byteAt w 5).toNat ≤ 4) := by
  simp only [OpcodeRow.selects, Bool.and_eq_true, beq_iff_eq, Bool.or_eq_true, Bool.not_eq_true',
    decide_eq_true_eq] at h
  obtain ⟨masked, panel⟩ := h
  exact ⟨fun k => by rw [← byteAt_and, masked], fun hp => panel.resolve_left (by simp [hp])⟩

/-- A byte under the mask 0xFF is the byte of the row's pattern. -/
theorem fixedByte {row : OpcodeRow} {w : CommandWord} {k : Nat} (h : row.selects w = true)
    (full : byteAt row.mask k = 0xFF := by rfl) : byteAt w k = byteAt row.pattern k := by
  obtain ⟨bytes, -⟩ := bytes_of_selects h
  calc byteAt w k
    _ = byteAt w k &&& 0xFF := (BitVec.and_allOnes (x := byteAt w k)).symm
    _ = byteAt row.pattern k := by rw [← full, bytes]

/-- Every word a row of the map selects is the word of some command: the bytes under a mask of 0xFF are
the encoder's own, and the others encode operands. -/
theorem exists_encode_of_selects {row : OpcodeRow} (hrow : row ∈ opcodeTable) {w : CommandWord}
    (h : row.selects w = true) : ∃ i, encode i = w := by
  obtain ⟨bytes, hpanel⟩ := bytes_of_selects h
  simp only [opcodeTable, List.mem_cons, List.not_mem_nil, or_false] at hrow
  rcases hrow with rfl | rfl | rfl | rfl | rfl | rfl | rfl | rfl | rfl | rfl | rfl | rfl |
      rfl | rfl | rfl | rfl | rfl | rfl | rfl | rfl | rfl | rfl | rfl
  · exact ⟨.nop, ofBytes_eq (fixedByte h) (fixedByte h) (fixedByte h) (fixedByte h) (fixedByte h)
      (fixedByte h) (fixedByte h) (fixedByte h)⟩
  · obtain ⟨buf, hbuf⟩ := exists_bufCode (bytes 6)
    obtain ⟨panel, hpanel⟩ := exists_panelCode (hpanel rfl)
    obtain ⟨orient, horient⟩ := exists_orientCode (bytes 3)
    exact ⟨.setPanelOrient buf panel orient, ofBytes_eq (fixedByte h) hbuf hpanel (fixedByte h)
      horient (fixedByte h) (fixedByte h) (fixedByte h)⟩
  · obtain ⟨buf, hbuf⟩ := exists_bufCode (bytes 6)
    obtain ⟨panel, hpanel⟩ := exists_panelCode (hpanel rfl)
    obtain ⟨row, hrow⟩ := exists_indexCode (bytes 4)
    obtain ⟨orient, horient⟩ := exists_orientCode (bytes 3)
    exact ⟨.setRowOrient buf panel row orient, ofBytes_eq (fixedByte h) hbuf hpanel hrow horient
      (fixedByte h) (fixedByte h) (fixedByte h)⟩
  · obtain ⟨buf, hbuf⟩ := exists_bufCode (bytes 6)
    obtain ⟨panel, hpanel⟩ := exists_panelCode (hpanel rfl)
    obtain ⟨row, hrow⟩ := exists_indexCode (bytes 4)
    exact ⟨.isOrientedUp buf panel row, ofBytes_eq (fixedByte h) hbuf hpanel hrow (fixedByte h)
      (fixedByte h) (fixedByte h) (fixedByte h)⟩
  · obtain ⟨wide, tall, wrap, hflags⟩ := exists_threeFlagsCode (bytes 0)
    exact ⟨.setMode wide tall wrap, ofBytes_eq (fixedByte h) (fixedByte h) (fixedByte h)
      (fixedByte h) (fixedByte h) (fixedByte h) (fixedByte h) hflags⟩
  · obtain ⟨panel, hpanel⟩ := exists_panelCode (hpanel rfl)
    exact ⟨.setGfxPanel panel, ofBytes_eq (fixedByte h) (fixedByte h) hpanel (fixedByte h)
      (fixedByte h) (fixedByte h) (fixedByte h) (fixedByte h)⟩
  · obtain ⟨role, hrole⟩ := exists_roleCode (bytes 6)
    obtain ⟨panel, hpanel⟩ := exists_panelCode (hpanel rfl)
    obtain ⟨row, hrow⟩ := exists_indexCode (bytes 4)
    obtain ⟨idx, hidx⟩ := exists_indexCode (bytes 3)
    exact ⟨.setLedPixel role panel row idx _ _ _, ofBytes_eq (fixedByte h) hrole hpanel hrow hidx
      rfl rfl rfl⟩
  · obtain ⟨role, hrole⟩ := exists_roleCode (bytes 6)
    obtain ⟨panel, hpanel⟩ := exists_panelCode (hpanel rfl)
    obtain ⟨row, hrow⟩ := exists_indexCode (bytes 4)
    obtain ⟨idx, hidx⟩ := exists_indexCode (bytes 3)
    exact ⟨.setLedColor role panel row idx (w.extractLsb' 0 16), ofBytes_eq (fixedByte h) hrole
      hpanel hrow hidx (fixedByte h) (hiByte_slice w 0).symm (loByte_slice w 0).symm⟩
  · obtain ⟨role, hrole⟩ := exists_roleCode (bytes 6)
    obtain ⟨panel, hpanel⟩ := exists_panelCode (hpanel rfl)
    obtain ⟨row, hrow⟩ := exists_indexCode (bytes 4)
    obtain ⟨idx, hidx⟩ := exists_indexCode (bytes 3)
    exact ⟨.getLed role panel row idx, ofBytes_eq (fixedByte h) hrole hpanel hrow hidx (fixedByte h)
      (fixedByte h) (fixedByte h)⟩
  · obtain ⟨role, hrole⟩ := exists_roleCode (bytes 6)
    obtain ⟨panel, hpanel⟩ := exists_panelCode (hpanel rfl)
    obtain ⟨row, hrow⟩ := exists_indexCode (bytes 4)
    exact ⟨.getRow role panel row, ofBytes_eq (fixedByte h) hrole hpanel hrow (fixedByte h)
      (fixedByte h) (fixedByte h) (fixedByte h)⟩
  · obtain ⟨role, hrole⟩ := exists_roleCode (bytes 6)
    obtain ⟨panel, hpanel⟩ := exists_panelCode (hpanel rfl)
    obtain ⟨row, hrow⟩ := exists_indexCode (bytes 4)
    exact ⟨.getShiftRow role panel row, ofBytes_eq (fixedByte h) hrole hpanel hrow (fixedByte h)
      (fixedByte h) (fixedByte h) (fixedByte h)⟩
  · obtain ⟨flag, hflag⟩ := exists_flagCode (bytes 0)
    exact ⟨.requestSwap flag, ofBytes_eq (fixedByte h) (fixedByte h) (fixedByte h) (fixedByte h)
      (fixedByte h) (fixedByte h) (fixedByte h) hflag⟩
  · obtain ⟨flag, hflag⟩ := exists_flagCode (bytes 0)
    exact ⟨.setBlank flag, ofBytes_eq (fixedByte h) (fixedByte h) (fixedByte h) (fixedByte h)
      (fixedByte h) (fixedByte h) (fixedByte h) hflag⟩
  · exact ⟨.drawPixel _ _ _, ofBytes_coordinates (fixedByte h) (fixedByte h)⟩
  · exact ⟨.getTopNeighbor _ _ _, ofBytes_coordinates (fixedByte h) (fixedByte h)⟩
  · obtain ⟨flag, hflag⟩ := exists_flagCode (bytes 4)
    exact ⟨.animRegister flag _, ofBytes_period (fixedByte h) (fixedByte h) (fixedByte h) hflag⟩
  · exact ⟨.animEnter, ofBytes_eq (fixedByte h) (fixedByte h) (fixedByte h) (fixedByte h)
      (fixedByte h) (fixedByte h) (fixedByte h) (fixedByte h)⟩
  · obtain ⟨flag, hflag⟩ := exists_flagCode (bytes 0)
    exact ⟨.animExit flag, ofBytes_eq (fixedByte h) (fixedByte h) (fixedByte h) (fixedByte h)
      (fixedByte h) (fixedByte h) (fixedByte h) hflag⟩
  · exact ⟨.refreshStep, ofBytes_eq (fixedByte h) (fixedByte h) (fixedByte h) (fixedByte h)
      (fixedByte h) (fixedByte h) (fixedByte h) (fixedByte h)⟩
  · exact ⟨.pack _ _ _, ofBytes_eq (fixedByte h) (fixedByte h) (fixedByte h) (fixedByte h)
      (fixedByte h) rfl rfl rfl⟩
  · exact ⟨.unpack (w.extractLsb' 0 16), ofBytes_eq (fixedByte h) (fixedByte h) (fixedByte h)
      (fixedByte h) (fixedByte h) (fixedByte h) (hiByte_slice w 0).symm (loByte_slice w 0).symm⟩
  · exact ⟨.pixelNew _ _ _, ofBytes_eq (fixedByte h) (fixedByte h) (fixedByte h) (fixedByte h)
      (fixedByte h) rfl rfl rfl⟩
  · exact ⟨.pixelEq _ _ _ _ _ _, ofBytes_eq (fixedByte h) (fixedByte h) rfl rfl rfl rfl rfl rfl⟩

/-- The lemmas `OwnRow`, one per command, in one statement. -/
theorem ownRow : ∀ i : Instr, Laws.OwnRow.Statement i
  | .nop => Laws.OwnRow.nop
  | .setPanelOrient .. => Laws.OwnRow.setPanelOrient ..
  | .setRowOrient .. => Laws.OwnRow.setRowOrient ..
  | .isOrientedUp .. => Laws.OwnRow.isOrientedUp ..
  | .setMode .. => Laws.OwnRow.setMode ..
  | .setGfxPanel .. => Laws.OwnRow.setGfxPanel ..
  | .setLedPixel .. => Laws.OwnRow.setLedPixel ..
  | .setLedColor .. => Laws.OwnRow.setLedColor ..
  | .getLed .. => Laws.OwnRow.getLed ..
  | .getRow .. => Laws.OwnRow.getRow ..
  | .getShiftRow .. => Laws.OwnRow.getShiftRow ..
  | .requestSwap .. => Laws.OwnRow.requestSwap ..
  | .setBlank .. => Laws.OwnRow.setBlank ..
  | .drawPixel .. => Laws.OwnRow.drawPixel ..
  | .getTopNeighbor .. => Laws.OwnRow.getTopNeighbor ..
  | .animRegister .. => Laws.OwnRow.animRegister ..
  | .animEnter => Laws.OwnRow.animEnter
  | .animExit .. => Laws.OwnRow.animExit ..
  | .refreshStep => Laws.OwnRow.refreshStep
  | .pack .. => Laws.OwnRow.pack ..
  | .unpack .. => Laws.OwnRow.unpack ..
  | .pixelNew .. => Laws.OwnRow.pixelNew ..
  | .pixelEq .. => Laws.OwnRow.pixelEq ..

/-- The word of a command is legal: the row with its mnemonic selects it. -/
theorem legalWord_encode (i : Instr) : legalWord (encode i) = true := by
  obtain ⟨row, hrow, -, hselects⟩ := ownRow i
  exact List.any_eq_true.mpr ⟨row, hrow, hselects⟩

/-- Settles O3: both sides say that the word is the word of some command. -/
theorem decodesExactlyLegalWords : Obligations.DecodesExactlyLegalWords := by
  intro w
  constructor
  · rintro ⟨i, hdecode⟩
    rw [← encodeOfDecode w i hdecode]
    exact legalWord_encode i
  · intro hlegal
    obtain ⟨row, hrow, hselects⟩ := List.any_eq_true.mp hlegal
    obtain ⟨i, rfl⟩ := exists_encode_of_selects hrow hselects
    exact ⟨i, decodeOfEncode i⟩

/-- Settles O49: the arm of `NOP` hands back the state it was given (R109). -/
theorem nopChangesNothing : Obligations.NopChangesNothing :=
  fun _ => rfl

end Sys2Proof
end

section
/-! # Proofs of the pixel family (40_pixel)

## Colour words as numbers (R134 to R136)

The three fields of a packed word do not overlap, so its `|||` is a sum, and division gives each
summand back. -/

namespace Sys2Proof.Machine

open Sys2Proof

/-- Each field of a colour word ends below the place of the next (R136). -/
theorem fields_lt {d : Depth} {g b : Nat} (hg : g < 2 ^ d.bits) (hb : b < 2 ^ d.bits) :
    b * 2 ^ (5 - d.bits) < 2 ^ (11 - d.bits) ∧
      g * 2 ^ (11 - d.bits) + b * 2 ^ (5 - d.bits) < 2 ^ (16 - d.bits) := by
  cases d <;> simp only [Depth.bits] at * <;> omega

/-- The slices of a sum of three fields are the three levels (R93, R94). -/
theorem slices_of_fields {d : Depth} {r g b : Nat} (hr : r < 2 ^ d.bits) (hg : g < 2 ^ d.bits)
    (hb : b < 2 ^ d.bits) {w : Nat}
    (hw : w = r * 2 ^ (16 - d.bits) + g * 2 ^ (11 - d.bits) + b * 2 ^ (5 - d.bits)) :
    w / 2 ^ (16 - d.bits) % 2 ^ d.bits = r ∧ w / 2 ^ (11 - d.bits) % 2 ^ d.bits = g ∧
      w / 2 ^ (5 - d.bits) % 2 ^ d.bits = b := by
  cases d <;> simp only [Depth.bits] at * <;> omega

/-- A Pixel of the build as numbers: every channel below `2^D`. -/
theorem Pixel.masked.toNat_lt {d : Depth} {px : Pixel} (h : px.masked d) (c : Chan) :
    (px.chan c).toNat < 2 ^ d.bits := by
  rw [← h c, toNat_and_mask]
  exact Nat.mod_lt _ (Nat.two_pow_pos _)

/-- A level of `m` bits shifted to a place where it fits keeps all its bits. -/
theorem toNat_placed {v : Level} {m k : Nat} (hv : v.toNat < 2 ^ m) (hk : m + k ≤ 16) :
    (v.setWidth 16 <<< k).toNat = v.toNat * 2 ^ k := by
  have fits : v.toNat * 2 ^ k < 2 ^ 16 := calc
    v.toNat * 2 ^ k < 2 ^ m * 2 ^ k := Nat.mul_lt_mul_of_pos_right hv (Nat.two_pow_pos k)
    _ = 2 ^ (m + k) := (Nat.pow_add ..).symm
    _ ≤ 2 ^ 16 := Nat.pow_le_pow_right (by decide) hk
  rw [BitVec.toNat_shiftLeft, BitVec.toNat_setWidth_of_le (by decide), Nat.shiftLeft_eq,
    Nat.mod_eq_of_lt fits]

/-- A level put above a word that ends below its place adds to it. -/
theorem toNat_placed_or {v : Level} {low : ColorWord} {m k : Nat} (hv : v.toNat < 2 ^ m)
    (hk : m + k ≤ 16) (hlow : low.toNat < 2 ^ k) :
    (v.setWidth 16 <<< k ||| low).toNat = v.toNat * 2 ^ k + low.toNat := by
  rw [BitVec.toNat_or, toNat_placed hv hk, ← Nat.shiftLeft_eq, Nat.shiftLeft_add_eq_or_of_lt hlow]

/-- The packed word as a number: blue ends below green's place, and both below red's (R94). -/
theorem toNat_packColor {d : Depth} {px : Pixel} (h : px.masked d) :
    (packColor d px).toNat = px.r.toNat * 2 ^ (16 - d.bits) + px.g.toNat * 2 ^ (11 - d.bits) +
      px.b.toNat * 2 ^ (5 - d.bits) := by
  have hr : px.r.toNat < 2 ^ d.bits := h.toNat_lt .red
  have hg : px.g.toNat < 2 ^ d.bits := h.toNat_lt .green
  have hb : px.b.toNat < 2 ^ d.bits := h.toNat_lt .blue
  have hd := Depth.bits_le d
  have blue := toNat_placed hb (k := 5 - d.bits) (by omega)
  obtain ⟨blueBelow, greenBlueBelow⟩ := fields_lt hg hb
  rw [← blue] at blueBelow greenBlueBelow
  have greenBlue := toNat_placed_or hg (by omega) blueBelow
  rw [← greenBlue] at greenBlueBelow
  rw [packColor, BitVec.or_assoc, toNat_placed_or hr (by omega) greenBlueBelow, greenBlue, blue,
    Nat.add_assoc]

/-- The quantization round trip of R136: the slices of a packed word are the levels packed. -/
theorem unpackColor_packColor {d : Depth} {px : Pixel} (h : px.masked d) :
    unpackColor d (packColor d px) = px := by
  obtain ⟨red, green, blue⟩ :=
    slices_of_fields (h.toNat_lt .red) (h.toNat_lt .green) (h.toNat_lt .blue) (toNat_packColor h)
  apply Pixel.ext_chan
  intro c
  apply BitVec.eq_of_toNat_eq
  cases c with
  | red => exact (toNat_colorSlice ..).trans red
  | green => exact (toNat_colorSlice ..).trans green
  | blue => exact (toNat_colorSlice ..).trans blue

/-- Two channel operands are one level exactly when they agree modulo `2^D` (R131). -/
theorem quantize_eq_iff {d : Depth} {v w : BitVec 8} :
    quantize d v = quantize d w ↔ v.toNat % 2 ^ d.bits = w.toNat % 2 ^ d.bits := by
  rw [← BitVec.toNat_inj, toNat_quantize, toNat_quantize]

/-- A channel operand of the build's range keeps its value. -/
theorem toNat_quantize_of_lt {d : Depth} {v : BitVec 8} (h : v.toNat < 2 ^ d.bits) :
    (quantize d v).toNat = v.toNat := by
  rw [toNat_quantize, Nat.mod_eq_of_lt h]

/-! ## The four commands -/

theorem exec_pack (r g b : BitVec 8) (s : State) :
    exec (.pack r g b) s = .next (s.reply (.color (packColor s.depth (pixelOf s.depth r g b)))) := rfl

theorem exec_unpack (c : ColorWord) (s : State) :
    exec (.unpack c) s = .next (s.reply (.pixel (unpackColor s.depth c))) := rfl

/-- Settles O12: the reply is `pixelOf`, each of whose channels is a quantized operand. -/
theorem pixelNewMasks : Obligations.PixelNewMasks := by
  intro s r g b
  exact ⟨pixelOf s.depth r g b, rfl, toNat_quantize .., toNat_quantize .., toNat_quantize ..⟩

/-- Settles O13: two Pixels are equal when their three quantized channels are. -/
theorem pixelEqComparesMasked : Obligations.PixelEqComparesMasked := by
  intro s r1 g1 b1 r2 g2 b2
  simp only [← quantize_eq_iff, ← Pixel.mk.injEq]
  rfl

/-- Settles O14: the reply is the packed word of the masked channels, a sum of disjoint fields. -/
theorem packPlacesChannels : Obligations.PackPlacesChannels := by
  intro s r g b
  refine ⟨packColor s.depth (pixelOf s.depth r g b), exec_pack .., ?_⟩
  rw [toNat_packColor (pixelOf_masked s.depth r g b)]
  simp only [pixelOf, toNat_quantize]

/-- Settles O15: the reply is the three slices of the word. -/
theorem unpackKeepsTopBits : Obligations.UnpackKeepsTopBits := by
  intro s c
  exact ⟨unpackColor s.depth c, exec_unpack .., toNat_colorSlice .., toNat_colorSlice .., toNat_colorSlice ..⟩

/-- All ones at `D = 2`: unpacking keeps two bits of each field, and only those come back (R136). -/
theorem unpackColor_two_white : unpackColor .two 0xFFFF = ⟨3, 3, 3⟩ := by decide

theorem packColor_two_white : packColor .two (pixelOf .two 3 3 3) = 0xC618 := by decide

/-- Settles O16: `unpackColor_packColor`, and the word `0xFFFF` at `D = 2`. -/
theorem quantizationRoundTrip : Obligations.QuantizationRoundTrip := by
  constructor
  · intro s r g b hr hg hb
    refine ⟨packColor s.depth (pixelOf s.depth r g b), pixelOf s.depth r g b, exec_pack .., ?_,
      toNat_quantize_of_lt hr, toNat_quantize_of_lt hg, toNat_quantize_of_lt hb⟩
    rw [exec_unpack, unpackColor_packColor (pixelOf_masked s.depth r g b)]
    rfl
  · intro s hs
    refine ⟨⟨3, 3, 3⟩, ?_, ?_⟩
    · rw [exec_unpack, hs, unpackColor_two_white]
      rfl
    · rw [exec_pack, hs, ← packColor_two_white]
      rfl

end Sys2Proof.Machine
end

section
/-! # Proofs of the Row and Panel family (41_row_panel)

## Places: positions of LEDs and stored rows (R151, R163) -/

namespace Sys2Proof.Machine

open Sys2Proof

theorem rev_val (i : Fin 8) : i.rev.val = 7 - i.val := by
  rw [Fin.val_rev]
  omega

theorem State.ledField_up {s : State} {b : Buf} {p : Panel} {r : Fin 8} (h : s.roworAt b p r = .up)
    (idx : Fin 8) : s.ledField b p r idx = idx := by
  rw [State.ledField, h, ledPos]

theorem State.ledField_down {s : State} {b : Buf} {p : Panel} {r : Fin 8}
    (h : s.roworAt b p r = .down) (idx : Fin 8) : s.ledField b p r idx = idx.rev := by
  rw [State.ledField, h, ledPos]

/-! ## Reading an LED after a write or a change of orientation (R155, R159) -/

/-- R155: the LED written reads as the Pixel written. -/
theorem State.readLed_writeLed_same {s : State} (h : s.fs.wf = true) (b : Buf) (p : Panel)
    (r i : Fin 8) {px : Pixel} (hpx : px.masked s.depth) :
    (s.writeLed b p r i px).readLed b p r i = px := by
  apply Pixel.ext_chan
  intro c
  rw [State.readLed_chan]
  exact State.fieldAt_writeLed_same h b p r i hpx c

/-- R155: every other LED of the Row stands at another position and reads as before. -/
theorem State.readLed_writeLed_other {s : State} (h : s.fs.wf = true) (b : Buf) (p : Panel)
    (r : Fin 8) {i j : Fin 8} (hj : j ≠ i) {px : Pixel} (hpx : px.masked s.depth) :
    (s.writeLed b p r i px).readLed b p r j = s.readLed b p r j := by
  have apart : s.ledField b p r j ≠ s.ledField b p r i := fun same => hj ((ledPos_inj _).1 same)
  apply Pixel.ext_chan
  intro c
  rw [State.readLed_chan, State.readLed_chan]
  exact State.fieldAt_writeLed_other h b p r i hpx c apart

/-- R159: LED `i` of a Row turned DOWN stands where LED `7 - i` stood while the Row was UP. -/
theorem State.readLed_setRowor_down {s : State} {b : Buf} {p : Panel} {r : Fin 8}
    (h : s.roworAt b p r = .up) (i : Fin 8) :
    (s.setRowor b p r .down).readLed b p r i = s.readLed b p r i.rev := by
  have turned : (s.setRowor b p r .down).roworAt b p r = .down := by simp [State.roworAt_setRowor]
  apply Pixel.ext_chan
  intro c
  rw [State.readLed_chan, State.readLed_chan, State.ledField_up h, State.ledField_down turned]
  rfl

/-- A Pixel of the build is kept by the mask on the channel operands (R92, R131). -/
theorem pixelOf_setWidth {d : Depth} {px : Pixel} (h : px.masked d) :
    pixelOf d (px.r.setWidth 8) (px.g.setWidth 8) (px.b.setWidth 8) = px := by
  apply Pixel.ext_chan
  intro c
  have kept := h c
  cases c <;> simpa [pixelOf, quantize, Pixel.chan] using kept

/-! ## Flags after `SET_PANEL_ORIENT` (R165) -/

theorem State.panorAt_setPanelOrient (s : State) (b b' : Buf) (p p' : Panel) (o : Orient) :
    ((s.setPanor b p o).setAllRowor b p o).panorAt b' p' =
      if b' = b ∧ p' = p then o else s.panorAt b' p' :=
  s.panorAt_setPanor b b' p p' o

theorem State.roworAt_setPanelOrient (s : State) (b b' : Buf) (p p' : Panel) (r' : Fin 8)
    (o : Orient) :
    ((s.setPanor b p o).setAllRowor b p o).roworAt b' p' r' =
      if b' = b ∧ p' = p then o else s.roworAt b' p' r' :=
  (s.setPanor b p o).roworAt_setAllRowor b b' p p' r' o

/-! ## The commands -/

theorem exec_setPanelOrient (b : Buf) (p : Panel) (o : Orient) (s : State) :
    exec (.setPanelOrient b p o) s = .next ((s.setPanor b p o).setAllRowor b p o) := rfl

theorem exec_setRowOrient (b : Buf) (p : Panel) (r : Fin 8) (o : Orient) (s : State) :
    exec (.setRowOrient b p r o) s = .next (s.setRowor b p r o) := rfl

theorem exec_isOrientedUp (b : Buf) (p : Panel) (r : Fin 8) (s : State) :
    exec (.isOrientedUp b p r) s = .next (s.reply (.bit (s.roworAt b p r == .up))) := rfl

theorem exec_setLedPixel (role : Role) (p : Panel) (r idx : Fin 8) (cr cg cb : BitVec 8) (s : State) :
    exec (.setLedPixel role p r idx cr cg cb) s =
      .next (s.writeLed (s.buf role) p r idx (pixelOf s.depth cr cg cb)) := rfl

theorem exec_setLedColor (role : Role) (p : Panel) (r idx : Fin 8) (c : ColorWord) (s : State) :
    exec (.setLedColor role p r idx c) s =
      .next (s.writeLed (s.buf role) p r idx (unpackColor s.depth c)) := rfl

theorem exec_getLed (role : Role) (p : Panel) (r idx : Fin 8) (s : State) :
    exec (.getLed role p r idx) s = .next (s.reply (.pixel (s.readLed (s.buf role) p r idx))) := rfl

/-- R154: `GET_LED` by what the LED of the role's buffer reads. -/
theorem exec_getLed_of_readLed {s : State} {role : Role} {b : Buf} {p : Panel} {r idx : Fin 8}
    {px : Pixel} (hb : s.buf role = b) (hpx : s.readLed b p r idx = px) :
    exec (.getLed role p r idx) s = .next { s with replies := s.replies ++ [.pixel px] } := by
  subst hb hpx
  rfl

/-- R162, R163: `GET_SHIFT_ROW` by the flag of the Panel in the role's buffer. -/
theorem exec_getShiftRow_of_panorAt {s : State} {role : Role} {b : Buf} {p : Panel} {o : Orient}
    (hb : s.buf role = b) (ho : s.panorAt b p = o) (r : Fin 8) :
    exec (.getShiftRow role p r) s = .next (s.reply (s.rowReply b p (shiftRow o r))) := by
  subst hb ho
  rfl

/-- Settles O17: the position named is the LED's field, and `writeLed` writes that field of the Row's three
words only. -/
theorem setLedPixelWritesOneField : Obligations.SetLedPixelWritesOneField := by
  intro s role panel row idx r g b h
  have hpx := pixelOf_masked s.depth r g b
  refine ⟨_, exec_setLedPixel .., State.writeLed_frame .., fun pos hpos => ?_,
    fun a ha => s.read_writeLed_other _ panel row idx _ ha⟩
  obtain rfl : pos = s.ledField (s.buf role) panel row idx := by
    apply Fin.ext
    rw [hpos]
    cases orient : s.roworAt (s.buf role) panel row with
    | up => rw [State.ledField_up orient]
    | down => rw [State.ledField_down orient, rev_val]
  have written := State.fieldAt_writeLed_same h (s.buf role) panel row idx hpx
  refine ⟨?_, ?_, ?_, fun c other hother => State.fieldAt_writeLed_other h _ panel row idx hpx c hother⟩
  · rw [written .red]
    exact toNat_quantize ..
  · rw [written .green]
    exact toNat_quantize ..
  · rw [written .blue]
    exact toNat_quantize ..

/-- Settles O18: both commands write one LED, and the mask keeps the channels of an unpacked colour. -/
theorem setLedColorIsSetLedPixelOfUnpack : Obligations.SetLedColorIsSetLedPixelOfUnpack := by
  intro s role panel row idx color
  refine ⟨unpackColor s.depth color, _, exec_unpack .., exec_setLedColor .., ?_⟩
  rw [exec_setLedPixel, pixelOf_setWidth (unpackColor_masked s.depth color)]

/-- Settles O20: `readLed_writeLed_same` and `readLed_writeLed_other`, at the buffer the role names before
and after the write. -/
theorem writeThenRead : Obligations.WriteThenRead := by
  intro s role panel row i r g b h
  have hpx := pixelOf_masked s.depth r g b
  refine ⟨_, pixelOf s.depth r g b, exec_setLedPixel .., rfl, ?_, fun j hj =>
    ⟨s.readLed (s.buf role) panel row j, exec_getLed .., ?_⟩⟩
  · exact exec_getLed_of_readLed (b := s.buf role) rfl
      (State.readLed_writeLed_same h _ panel row i hpx)
  · exact exec_getLed_of_readLed (b := s.buf role) rfl
      (State.readLed_writeLed_other h _ panel row hj hpx)

/-- Settles O21: only the named place of the table of Row flags is set. -/
theorem setRowOrientWritesOneFlag : Obligations.SetRowOrientWritesOneFlag := by
  intro s buf panel row o
  refine ⟨_, exec_setRowOrient .., rfl, ?_, fun b' p' r' other => ?_⟩
  · rw [State.roworAt_setRowor, if_pos ⟨rfl, rfl, rfl⟩]
  · rw [State.roworAt_setRowor, if_neg]
    rintro ⟨rfl, rfl, rfl⟩
    exact other rfl

/-- Settles O23: the orientation commands write flags only, and a turned Row reads mirrored. -/
theorem orientationMovesNoData : Obligations.OrientationMovesNoData := by
  constructor
  · intro s buf panel row o
    exact ⟨_, _, exec_setRowOrient .., rfl, exec_setPanelOrient .., rfl⟩
  · intro s role panel row i up
    exact ⟨_, s.readLed (s.buf role) panel row i.rev, exec_setRowOrient .., exec_getLed ..,
      exec_getLed_of_readLed (b := s.buf role) rfl (State.readLed_setRowor_down up i)⟩

/-- Settles O26: both tables of flags are set at the places of the named Panel only. -/
theorem setPanelOrientPropagates : Obligations.SetPanelOrientPropagates := by
  intro s buf panel o
  refine ⟨_, exec_setPanelOrient .., rfl, ?_, fun r => ?_, fun b' p' other => ?_⟩
  · rw [State.panorAt_setPanelOrient, if_pos ⟨rfl, rfl⟩]
  · rw [State.roworAt_setPanelOrient, if_pos ⟨rfl, rfl⟩]
  · have apart : ¬ (b' = buf ∧ p' = panel) := by
      rintro ⟨rfl, rfl⟩
      exact other rfl
    refine ⟨?_, fun r' => ?_⟩
    · rw [State.panorAt_setPanelOrient, if_neg apart]
    · rw [State.roworAt_setPanelOrient, if_neg apart]

/-! ## The mirrored Panel (R166) -/

/-- A Panel of the ANIMATE buffer set to an orientation, then one LED of it drawn. -/
def State.orientAndDraw (s : State) (p : Panel) (o : Orient) (r idx : Fin 8) (px : Pixel) : State :=
  ((s.setPanor s.animateIndex p o).setAllRowor s.animateIndex p o).writeLed s.animateIndex p r idx px

theorem execAll_orient_draw (s : State) (p : Panel) (o : Orient) (r idx : Fin 8) (cr cg cb : BitVec 8) :
    execAll [.setPanelOrient s.animateIndex p o, .setLedPixel .animate p r idx cr cg cb] s =
      .next (s.orientAndDraw p o r idx (pixelOf s.depth cr cg cb)) := rfl

/-- R163: the stored row drawn into is the shift row that the same orientation gives. -/
theorem State.exec_getShiftRow_orientAndDraw (s : State) (p : Panel) (o : Orient) (r idx : Fin 8)
    (px : Pixel) :
    exec (.getShiftRow .animate p (shiftRow o r)) (s.orientAndDraw p o r idx px) =
      .next ((s.orientAndDraw p o r idx px).reply
        ((s.orientAndDraw p o r idx px).rowReply s.animateIndex p r)) := by
  have turned : (s.orientAndDraw p o r idx px).panorAt s.animateIndex p = o :=
    (s.panorAt_setPanelOrient s.animateIndex s.animateIndex p p o).trans (if_pos ⟨rfl, rfl⟩)
  rw [exec_getShiftRow_of_panorAt (b := s.animateIndex) rfl turned, shiftRow_shiftRow]

/-- R151, R152: the LED drawn stands at the position the same orientation gives. -/
theorem State.fieldAt_orientAndDraw {s : State} (h : s.fs.wf = true) (p : Panel) (o : Orient)
    (r idx : Fin 8) {px : Pixel} (hpx : px.masked s.depth) (c : Chan) :
    fieldAt s.depth ((s.orientAndDraw p o r idx px).fsRead s.animateIndex p r c) (ledPos o idx) =
      px.chan c := by
  have turned : ((s.setPanor s.animateIndex p o).setAllRowor s.animateIndex p o).ledField
      s.animateIndex p r idx = ledPos o idx := by
    rw [State.ledField, State.roworAt_setPanelOrient, if_pos ⟨rfl, rfl⟩]
  rw [← turned]
  exact State.fieldAt_writeLed_same
    (s := (s.setPanor s.animateIndex p o).setAllRowor s.animateIndex p o) h _ p r idx hpx c

/-- Settles O27: DOWN reverses the shift rows and the positions, so each of the two fields holds the level
drawn into it. -/
theorem orientationMirrorsPanel : Obligations.OrientationMirrorsPanel := by
  intro s up down row r g b h
  have hpx := pixelOf_masked s.depth r g b
  have mirrored : ∀ c,
      fieldAt s.depth ((s.orientAndDraw up .up row 0 _).fsRead s.animateIndex up row c) 0 =
        fieldAt s.depth ((s.orientAndDraw down .down row 0 _).fsRead s.animateIndex down row c) 7 :=
    fun c => (State.fieldAt_orientAndDraw h up .up row 0 hpx c).trans
      (State.fieldAt_orientAndDraw h down .down row 0 hpx c).symm
  exact ⟨_, _, _, _, _, _, _, _, execAll_orient_draw .., execAll_orient_draw ..,
    s.exec_getShiftRow_orientAndDraw up .up row 0 _,
    s.exec_getShiftRow_orientAndDraw down .down row 0 _, mirrored .red, mirrored .green, mirrored .blue⟩

/-! ## Decoding of words of the spec, and the commands that read -/

/-- Settles O4: the decoder is run on each word. -/
theorem specWordsDecode : Obligations.SpecWordsDecode :=
  ⟨rfl, rfl, rfl, rfl, rfl, rfl, rfl, rfl, rfl, rfl, rfl, rfl⟩

/-- Settles O19: the reply is `readLed`, whose channels are fields at the LED's position. -/
theorem getLedReadsField : Obligations.GetLedReadsField := by
  intro s role panel row idx
  refine ⟨_, (s.ledField (s.buf role) panel row idx).val, exec_getLed .., fun up => ?_, fun down => ?_,
    toNat_fieldAt .., toNat_fieldAt .., toNat_fieldAt ..⟩
  · rw [State.ledField_up up]
  · rw [State.ledField_down down, rev_val]

/-- Settles O22: the reply compares the Row's flag with UP. -/
theorem isOrientedUpReadsFlag : Obligations.IsOrientedUpReadsFlag := by
  intro s buf panel row
  constructor
  · intro up
    rw [exec_isOrientedUp, up]
    rfl
  · intro down
    rw [exec_isOrientedUp, down]
    rfl

/-- Settles O24: `rowReply` of the row named; no flag is read. -/
theorem getRowReadsStoredRow : Obligations.GetRowReadsStoredRow :=
  fun _ _ _ _ => rfl

/-- Settles O25: the stored row is `shiftRow` of the Panel's flag. -/
theorem getShiftRowFollowsPanel : Obligations.GetShiftRowFollowsPanel := by
  intro s role panel row
  refine ⟨_, fun up => ?_, fun down => ?_, exec_getShiftRow_of_panorAt rfl rfl row⟩
  · rw [up, shiftRow]
  · rw [down, shiftRow, rev_val]

end Sys2Proof.Machine
end

section
/-! # Proofs of the frame store family (42_frame_store)

## The swap at the cycle boundary (R186)

Whether a refresh step swaps is one condition on the state it starts in, `State.SwapDue`. -/

namespace Sys2Proof.Machine

open Sys2Proof

/-- The next refresh step ends the cycle and finds a request pending (R186, R231). -/
def State.SwapDue (s : State) : Prop :=
  s.row = 7 ∧ ¬ s.subCycle < s.depth.levels - 1 ∧ s.swapPending = true

/-- R186: a step with the swap due exchanges the roles, clears the flag and starts a new cycle. -/
theorem State.SwapDue.afterRefresh {s : State} (due : s.SwapDue) :
    s.afterRefresh.displayIndex = s.animateIndex ∧ s.afterRefresh.animateIndex = s.displayIndex ∧
      s.afterRefresh.swapPending = false ∧ s.afterRefresh.subCycle = 0 ∧ s.afterRefresh.row = 0 := by
  obtain ⟨hrow, hlast, hpending⟩ := due
  rcases s.afterRefresh_cases with ⟨h, -⟩ | ⟨-, h, -⟩ | ⟨-, -, h, -⟩ | ⟨-, -, -, e⟩
  · rw [hrow] at h; exact absurd h (by decide)
  · exact absurd h hlast
  · rw [hpending] at h; cases h
  · rw [e]; exact ⟨rfl, rfl, rfl, rfl, rfl⟩

/-- R231: a step without the swap due leaves the roles and the flag. -/
theorem State.afterRefresh_not_due {s : State} (notDue : ¬ s.SwapDue) :
    s.afterRefresh.displayIndex = s.displayIndex ∧ s.afterRefresh.animateIndex = s.animateIndex ∧
      s.afterRefresh.swapPending = s.swapPending := by
  rcases s.afterRefresh_cases with ⟨-, e⟩ | ⟨-, -, e⟩ | ⟨-, -, -, e⟩ | ⟨hrow, hlast, hpending, -⟩
  · rw [e]; exact ⟨rfl, rfl, rfl⟩
  · rw [e]; exact ⟨rfl, rfl, rfl⟩
  · rw [e]; exact ⟨rfl, rfl, rfl⟩
  · exact absurd ⟨hrow, hlast, hpending⟩ notDue

/-- R186: with the sub-cycle in range, the cycle ends in the step that starts at (N - 1, 7). -/
theorem State.swapDue_iff {s : State} (hrange : s.subCycle < s.depth.levels) :
    s.SwapDue ↔ s.row = 7 ∧ s.subCycle = s.depth.levels - 1 ∧ s.swapPending = true := by
  have last : ¬ s.subCycle < s.depth.levels - 1 ↔ s.subCycle = s.depth.levels - 1 := by omega
  rw [State.SwapDue, last]

/-- R187: the swap is due when a request is pending and the boundary is one step away. -/
theorem State.swapDue_iff_stepsToBoundary {s : State} (hrange : s.subCycle < s.depth.levels) :
    s.SwapDue ↔ s.stepsToBoundary = 1 ∧ s.swapPending = true := by
  have hrow : s.row = 7 ↔ s.row.val = 7 := Fin.ext_iff
  have place : s.stepsToBoundary = 1 ↔ s.row = 7 ∧ s.subCycle = s.depth.levels - 1 := by
    rw [State.stepsToBoundary, hrow]
    omega
  rw [State.swapDue_iff hrange, place, and_assoc]

/-- R187: the boundary is at least one step away and at most a whole cycle of `8 N`. -/
theorem State.stepsToBoundary_bounds (s : State) :
    1 ≤ s.stepsToBoundary ∧ s.stepsToBoundary ≤ 8 * s.depth.levels := by
  have hpos := Depth.levels_pos s.depth
  rw [State.stepsToBoundary]
  omega

/-! ## A request waits for the boundary (R187) -/

/-- R36 point 2: a refresh step keeps the sub-cycle in range. -/
theorem State.afterRefresh_inRange {s : State} (hrange : s.subCycle < s.depth.levels) :
    s.afterRefresh.subCycle < s.afterRefresh.depth.levels := by
  rw [s.afterRefresh_depth]
  rcases s.afterRefresh_cases with ⟨-, e⟩ | ⟨-, hsub, e⟩ | ⟨-, -, -, e⟩ | ⟨-, -, -, e⟩
  · rw [e]; exact hrange
  · rw [e]; exact Nat.add_lt_of_lt_sub hsub
  · rw [e]; exact Depth.levels_pos _
  · rw [e]; exact Depth.levels_pos _

/-- From `s` to `t` the boundary has come `n` refresh steps nearer and no swap has been performed: the
roles are those of `s`, and a request pending in `s` is still pending. -/
structure SwapWaits (s t : State) (n : Nat) : Prop where
  inRange : t.subCycle < t.depth.levels
  display : t.displayIndex = s.displayIndex
  animate : t.animateIndex = s.animateIndex
  pending : s.swapPending = true → t.swapPending = true
  nearer : t.stepsToBoundary + n = s.stepsToBoundary

theorem SwapWaits.refl {s : State} (hrange : s.subCycle < s.depth.levels) : SwapWaits s s 0 :=
  ⟨hrange, rfl, rfl, id, rfl⟩

theorem SwapWaits.trans {s t u : State} {m n : Nat} (hst : SwapWaits s t m) (htu : SwapWaits t u n) :
    SwapWaits s u (n + m) where
  inRange := htu.inRange
  display := htu.display.trans hst.display
  animate := htu.animate.trans hst.animate
  pending := htu.pending ∘ hst.pending
  nearer := by rw [← hst.nearer, ← htu.nearer, Nat.add_assoc]

/-- R187, R230: a refresh step short of the boundary. -/
theorem State.afterRefresh_waits {s : State} (hrange : s.subCycle < s.depth.levels)
    (hfar : 1 < s.stepsToBoundary) : SwapWaits s s.afterRefresh 1 := by
  have notDue : ¬ s.SwapDue := fun due => by
    have := ((State.swapDue_iff_stepsToBoundary hrange).1 due).1
    omega
  obtain ⟨display, animate, pending⟩ := State.afterRefresh_not_due notDue
  exact {
    inRange := State.afterRefresh_inRange hrange
    display := display
    animate := animate
    pending := pending.trans
    nearer := (State.afterRefresh_before_boundary hrange hfar).2 }

/-- R335, R189: a host command other than the immediate swap. -/
theorem exec_host_waits {s t : State} {i : Instr} (hrange : s.subCycle < s.depth.levels)
    (h : exec i s = .next t) (hrefresh : i ≠ .refreshStep) (hswap : i ≠ .requestSwap true) :
    SwapWaits s t 0 := by
  obtain ⟨scan, roles, -, cleared, -⟩ := registersHaveTheirWriters s t i h
  have hscan := not_imp_comm.1 scan hrefresh
  have hroles := not_imp_comm.1 roles (by simp [hrefresh, hswap])
  simp only [Prod.mk.injEq] at hscan hroles
  have hdepth : t.depth = s.depth := congrArg Build.depth (effect_of_exec h).keeps_build
  exact {
    inRange := by rw [hdepth, hscan.1]; exact hrange
    display := hroles.1
    animate := hroles.2
    pending := fun hpending =>
      Bool.eq_true_of_not_eq_false fun hclear => hrefresh (cleared hpending hclear)
    nearer := (exec_host_keeps_cycle h hrefresh hswap).2 }

/-- R187: a run with fewer refresh steps than the boundary is away, and no immediate swap, waits. -/
theorem execAll_waits {cs : List Instr} {s : State} (hrange : s.subCycle < s.depth.levels)
    (deferred : ∀ i ∈ cs, i ≠ .requestSwap true) (hcount : cs.count .refreshStep < s.stepsToBoundary) :
    ∃ t, execAll cs s = .next t ∧ SwapWaits s t (cs.count .refreshStep) := by
  induction cs generalizing s with
  | nil => exact ⟨s, rfl, .refl hrange⟩
  | cons i rest ih =>
    obtain ⟨hi, hrest⟩ := List.forall_mem_cons.1 deferred
    obtain ⟨u, hu, -⟩ := exec_effect s i
    simp only [List.count_cons, beq_iff_eq] at hcount ⊢
    have head : SwapWaits s u (if i = .refreshStep then 1 else 0) := by
      by_cases hrefresh : i = .refreshStep
      · subst hrefresh
        rw [if_pos rfl] at hcount ⊢
        obtain rfl := eq_of_exec (exec_refreshStep s) hu
        exact State.afterRefresh_waits hrange (by omega)
      · rw [if_neg hrefresh]
        exact exec_host_waits hrange hu hrefresh hi
    obtain ⟨t, ht, tail⟩ := ih head.inRange hrest (by have := head.nearer; omega)
    exact ⟨t, by simp only [execAll, hu, ht], head.trans tail⟩

/-! ## The statements -/

theorem exec_requestSwap_immediate (s : State) : exec (.requestSwap true) s = .next s.swap := rfl

theorem exec_requestSwap_deferred (s : State) :
    exec (.requestSwap false) s = .next s.requestDeferredSwap := rfl

/-- Settles O28: the two forms are `State.swap` and `State.requestDeferredSwap`. -/
theorem requestSwapEffects : Obligations.RequestSwapEffects :=
  fun s => ⟨exec_requestSwap_immediate s, exec_requestSwap_deferred s⟩

/-- Settles O29: the request waits while the commands run; when they leave one step to the boundary, the
swap is due. -/
theorem deferredSwapLatency : Obligations.DeferredSwapLatency := by
  intro s cs k hrange deferred hk
  have hk : k = s.requestDeferredSwap.stepsToBoundary := hk
  have waits : cs.count .refreshStep < k → ∃ t, execAll (.requestSwap false :: cs) s = .next t ∧
      SwapWaits s.requestDeferredSwap t (cs.count .refreshStep) :=
    fun hcount => execAll_waits (s := s.requestDeferredSwap) hrange deferred (hk ▸ hcount)
  refine ⟨hk ▸ s.requestDeferredSwap.stepsToBoundary_bounds, fun hcount => ?_, fun hcount => ?_⟩
  · obtain ⟨t, ht, wait⟩ := waits hcount
    exact ⟨t, ht, wait.display, wait.animate, wait.pending rfl⟩
  · obtain ⟨t, ht, wait⟩ := waits (by omega)
    have due : t.SwapDue := (State.swapDue_iff_stepsToBoundary wait.inRange).2
      ⟨by have := wait.nearer; omega, wait.pending rfl⟩
    obtain ⟨display, animate, cleared, start⟩ := due.afterRefresh
    exact ⟨t.afterRefresh, execAll_append ht, display.trans wait.animate, animate.trans wait.display,
      cleared, start⟩

/-- Settles O30: setting the flag twice and exchanging twice are equations of states. In the third clause
the swap is as due after the immediate swap as before it, so the boundary step exchanges the roles back. -/
theorem swapCombinations : Obligations.SwapCombinations := by
  intro s
  refine ⟨rfl, rfl, fun hpending hrow hlast => ?_⟩
  have due : s.swap.SwapDue := ⟨hrow, hlast.not_lt, hpending⟩
  obtain ⟨display, animate, cleared, -⟩ := due.afterRefresh
  exact ⟨s.swap.afterRefresh, rfl, display, animate, cleared⟩

/-- Settles O35: the two clauses are the step with the swap due and without. -/
theorem boundarySwap : Obligations.BoundarySwap := by
  intro s hrange
  rw [← State.swapDue_iff hrange]
  refine ⟨s.afterRefresh, exec_refreshStep s, fun due => ?_, State.afterRefresh_not_due⟩
  obtain ⟨display, animate, cleared, -⟩ := due.afterRefresh
  exact ⟨display, animate, cleared⟩

/-- Settles O57: only the two swaps write a role (R35), and that of a refresh step has to be due. -/
theorem rolesChangeOnlyBySwap : Obligations.RolesChangeOnlyBySwap := by
  intro s t i h
  obtain ⟨-, writers, -, cleared, -⟩ := registersHaveTheirWriters s t i h
  refine ⟨fun changed => ?_, cleared⟩
  rcases writers (by simpa only [ne_eq, Prod.mk.injEq, not_and_or] using changed) with swap | refresh
  · exact .inl swap
  · subst refresh
    obtain rfl := eq_of_exec (exec_refreshStep s) h
    have due : s.SwapDue := by
      by_contra notDue
      obtain ⟨display, animate, -⟩ := State.afterRefresh_not_due notDue
      exact changed.elim (· display) (· animate)
    exact .inr ⟨rfl, due.2.2⟩

end Sys2Proof.Machine
end

section
/-! # Proofs of the refresh family (43_refresh_engine)

## The default dimming table (R201, R204) -/

namespace Sys2Proof

theorem Schedule.even_depth (d : Depth) : (Schedule.even d).depth = d := by cases d <;> rfl

theorem Schedule.even_wf (d : Depth) : (Schedule.even d).wf = true := by cases d <;> decide

theorem Schedule.even_bit (d : Depth) : ∀ v < d.levels, ∀ s < d.levels,
    (Schedule.even d).bit (BitVec.ofNat 4 v) s = evenFormula d v s := by
  cases d
  case two => decide
  case four => decide

/-- Settles O31: the two tables are compared with the formula and with R201 entry by entry. -/
theorem evenScheduleMeetsFormula : Obligations.EvenScheduleMeetsFormula := fun d =>
  ⟨Schedule.even_depth d, Schedule.even_wf d, fun v s hv hs => Schedule.even_bit d v hv s hs⟩

/-- R201: a level is on in as many sub-cycles as its value. -/
theorem Schedule.length_filter_bit {t : Schedule} (h : t.wf = true) {v : Level}
    (hv : v.toNat < t.depth.levels) :
    ((List.range t.depth.levels).filter fun sub => t.bit v sub).length = v.toNat :=
  (length_filter_getLsbD (t.entry v) t.depth.levels).trans (Schedule.popcount_entry h hv)

theorem Depth.levels_eq (d : Depth) : d.levels = 2 ^ d.bits := by cases d <;> rfl

/-! ## The places of the serial bits (R213) -/

theorem LedOrder.getElem?_asc (i : Fin 8) : LedOrder.asc.toList[i.val]? = some i := by
  revert i; decide

theorem LedOrder.getElem?_desc (i : Fin 8) : LedOrder.desc.toList[i.val]? = some i.rev := by
  revert i; decide

/-- R213: `ASC` shifts out the field position `k` as number `k`. -/
theorem LedOrder.asc_pos {k : Nat} (hk : k < 8) {pos : Fin 8}
    (h : LedOrder.asc.toList[k]? = some pos) : pos = ⟨k, hk⟩ :=
  Option.some.inj (h.symm.trans (LedOrder.getElem?_asc ⟨k, hk⟩))

/-- R213: `DESC` shifts out the field position `7 - k` as number `k`. -/
theorem LedOrder.desc_pos {k : Nat} (hk : k < 8) {pos : Fin 8}
    (h : LedOrder.desc.toList[k]? = some pos) : pos = Fin.rev ⟨k, hk⟩ :=
  Option.some.inj (h.symm.trans (LedOrder.getElem?_desc ⟨k, hk⟩))

end Sys2Proof

namespace Sys2Proof.Machine

open Sys2Proof

/-- R213: each of the 120 bits has a panel, a plane and a field position. -/
theorem exists_serialPlace (b : Build) {k : Nat} (hk : k < 120) :
    ∃ (panel : Panel) (c : Chan) (pos : Fin 8), panelChain[k / 24]? = some panel ∧
      b.chanOrder.toList[k % 24 / 8]? = some c ∧ b.ledOrder.toList[k % 8]? = some pos := by
  have hpanel : k / 24 < panelChain.length := by simp only [panelChain, List.length]; omega
  have hchan : k % 24 / 8 < b.chanOrder.toList.length := by
    rw [ChanOrder.length_toList]; omega
  have hled : k % 8 < b.ledOrder.toList.length := by rw [LedOrder.length_toList]; omega
  exact ⟨_, _, _, List.getElem?_eq_getElem hpanel, List.getElem?_eq_getElem hchan,
    List.getElem?_eq_getElem hled⟩

/-- The field a serial bit carries in a given row (R211 to R213). -/
def State.serialLevel (s : State) (panel : Panel) (r : Fin 8) (c : Chan) (pos : Fin 8) : Level :=
  fieldAt s.depth (s.fsRead s.displayIndex panel (shiftRow (s.panorAt s.displayIndex panel) r) c) pos

/-- R212, R213: the serial bit at a place is the schedule's bit of the field there. -/
theorem State.serialFrame_of_place {s : State} {k : Nat} {panel : Panel} {c : Chan} {pos : Fin 8}
    (hpanel : panelChain[k / 24]? = some panel)
    (hchan : s.build.chanOrder.toList[k % 24 / 8]? = some c)
    (hled : s.build.ledOrder.toList[k % 8]? = some pos) :
    s.serialFrame[k]? =
      some (s.build.sched.bit (s.serialLevel panel s.row c pos) s.subCycle) := by
  have hblock : k % 24 % 8 = k % 8 := Nat.mod_mod_of_dvd k (by decide)
  rw [State.serialFrame_getElem?, hblock, hpanel, hchan, hled]
  rfl

/-- Settles O33: the frame's nesting gives the places, and a field is a quotient and a remainder. -/
theorem serialBitOrder : Obligations.SerialBitOrder := by
  intro s k hk
  obtain ⟨panel, c, pos, hpanel, hchan, hled⟩ := exists_serialPlace s.build hk
  have hplace : k % 8 < 8 := Nat.mod_lt k (by decide)
  refine ⟨panel, c, pos.val, shiftRow (s.panorAt s.displayIndex panel) s.row,
    s.serialLevel panel s.row c pos, hpanel, hchan, fun asc => ?_, fun desc => ?_, fun up => ?_,
    fun down => ?_, toNat_fieldAt _ _ _, State.serialFrame_of_place hpanel hchan hled⟩
  · exact congrArg Fin.val (LedOrder.asc_pos hplace (asc ▸ hled))
  · exact (congrArg Fin.val (LedOrder.desc_pos hplace (desc ▸ hled))).trans (rev_val _)
  · rw [up]; rfl
  · rw [down]; exact rev_val s.row

/-! ## The events of a step (R221, R223, R225) -/

/-- Four writes for each of the 120 bits, and five for the latch sequence. -/
theorem State.length_refreshEvents (s : State) : s.refreshEvents.length = 485 := by
  rw [State.refreshEvents, List.length_append, length_flatMap_blocks _ clockBit fun _ => rfl,
    State.length_serialFrame]
  rfl

/-- Settles O32: the events of a step are those of its serial bits and of the latch sequence. -/
theorem refreshStepEvents : Obligations.RefreshStepEvents := by
  intro s
  refine ⟨s.afterRefresh, s.serialFrame, exec_refreshStep s, rfl, s.length_serialFrame, ?_, ?_,
    s.afterRefresh_blankSeq, s.afterRefresh_pins⟩
  · rw [s.afterRefresh_trace, List.append_assoc]
    rfl
  · rw [s.afterRefresh_trace, List.length_append, s.length_refreshEvents]

/-- R223: on an idle bus the chain takes the serial frame, and the latch rises once. -/
theorem State.refreshEvents_bus (s : State) {p : Pins} (hclk : p.sclk = false)
    (hlatch : p.latch = false) :
    sampledBits p s.refreshEvents = s.serialFrame ∧ latchRises p s.refreshEvents = 1 := by
  obtain ⟨bitsSampled, bitsRises, -⟩ := clockBits_bus s.serialFrame hclk
  obtain ⟨latchSampled, latchRise, -⟩ :=
    latchEvents_bus s (p := { p with sclk := false, sdata := false }) rfl hlatch
  rw [State.refreshEvents, sampledBits_append, latchRises_append,
    Pins.after_clockBits _ _ s.serialFrame_ne_nil, bitsSampled, bitsRises, latchSampled, latchRise,
    List.append_nil]
  exact ⟨rfl, rfl⟩

/-- Settles O37: the serial bits and the latch sequence each do their part on an idle bus. -/
theorem refreshStepOnTheBus : Obligations.RefreshStepOnTheBus := by
  intro s hclk _ hlatch _
  obtain ⟨sampled, rises⟩ := s.refreshEvents_bus hclk hlatch
  have idle := s.afterRefresh_pins
  refine ⟨s.afterRefresh, s.refreshEvents, exec_refreshStep s, s.afterRefresh_trace, sampled, ?_,
    rises, protocolOk_refreshEvents s hclk hlatch, ?_, ?_, ?_⟩
  · rw [sampled, s.length_serialFrame]
  all_goals rw [idle]

/-! ## What a step writes (R210, R230) -/

/-- Settles O34: the four outcomes of a step, by the row and the sub-cycle it starts at. -/
theorem sequencerAdvance : Obligations.SequencerAdvance := by
  intro s
  refine ⟨s.afterRefresh, exec_refreshStep s, ?_⟩
  have hlast : s.row = 7 → s.row.val = 7 := congrArg Fin.val
  rcases s.afterRefresh_cases with ⟨hrow, e⟩ | ⟨hrow, hsub, e⟩ | ⟨hrow, hsub, -, e⟩ |
    ⟨hrow, hsub, -, e⟩
  · have hnext : (s.row + 1).val = s.row.val + 1 := Fin.val_add_one_of_lt' (by omega)
    rw [e]
    exact ⟨fun _ => ⟨hnext, rfl⟩, fun h => absurd (hlast h) (by omega),
      fun h => absurd (hlast h) (by omega)⟩
  · have := hlast hrow
    rw [e]
    exact ⟨fun h => absurd h (by omega), fun _ _ => ⟨rfl, rfl⟩, fun _ h => absurd hsub (by omega)⟩
  -- the wrap, without and with a swap
  all_goals
    have := hlast hrow
    rw [e]
    exact ⟨fun h => absurd h (by omega), fun _ h => absurd h hsub, fun _ _ => ⟨rfl, rfl⟩⟩

/-- Settles O36: the frame of a step. -/
theorem refreshStepFrame : Obligations.RefreshStepFrame := by
  intro s
  refine ⟨s.afterRefresh, exec_refreshStep s, ?_⟩
  rw [s.afterRefresh_blankSeq]
  exact s.afterRefresh_frame

/-! ## A step while the output is held blanked (R235)

First the advance as an equation per branch (R230, R231). -/

theorem State.advance_nextRow {s : State} (hrow : s.row.val < 7) :
    s.advance = { s with row := s.row + 1 } := if_pos hrow

theorem State.advance_nextSubCycle {s : State} (hrow : ¬ s.row.val < 7)
    (hsub : s.subCycle < s.depth.levels - 1) :
    s.advance = { s with row := 0, subCycle := s.subCycle + 1 } :=
  (if_neg hrow).trans (if_pos hsub)

theorem State.advance_boundary {s : State} (hrow : ¬ s.row.val < 7)
    (hsub : ¬ s.subCycle < s.depth.levels - 1) :
    s.advance = { s with row := 0, subCycle := 0 }.boundarySwap :=
  (if_neg hrow).trans (if_neg hsub)

/-- The state with another `blankHold` and another bus behind it: all in which a step taken blanked can
differ (R235). -/
def State.withOutput (s : State) (hold : Bool) (p : Pins) (tr : List PinEvent) : State :=
  { s with blankHold := hold, pins := p, trace := tr }

theorem State.boundarySwap_withOutput (s : State) (hold : Bool) (p : Pins) (tr : List PinEvent) :
    (s.withOutput hold p tr).boundarySwap = s.boundarySwap.withOutput hold p tr := by
  by_cases pending : s.swapPending = true
  · rw [State.boundarySwap, State.boundarySwap, if_pos pending]
    exact if_pos pending
  · rw [State.boundarySwap, State.boundarySwap, if_neg pending]
    exact if_neg pending

/-- The advance reads neither the pins, nor the trace, nor `blankHold` (R230). -/
theorem State.advance_withOutput (s : State) (hold : Bool) (p : Pins) (tr : List PinEvent) :
    (s.withOutput hold p tr).advance = s.advance.withOutput hold p tr := by
  by_cases hrow : s.row.val < 7
  · rw [State.advance_nextRow hrow]
    exact State.advance_nextRow hrow
  · by_cases hsub : s.subCycle < s.depth.levels - 1
    · rw [State.advance_nextSubCycle hrow hsub]
      exact State.advance_nextSubCycle hrow hsub
    · rw [State.advance_boundary hrow hsub, ← State.boundarySwap_withOutput]
      exact State.advance_boundary hrow hsub

/-- R235: of what a refresh step does, only its pins and its trace depend on `blankHold`. -/
theorem State.afterRefresh_withHold (s : State) (hold : Bool) :
    { s with blankHold := hold }.afterRefresh =
      s.afterRefresh.withOutput hold { s with blankHold := hold }.afterRefresh.pins
        { s with blankHold := hold }.afterRefresh.trace := by
  have before := State.beforeAdvance_frame { s with blankHold := hold }
  simp only [State.afterRefresh, State.advance_pins, State.advance_trace]
  rw [← State.advance_withOutput, s.beforeAdvance_frame]
  exact congrArg State.advance before

/-- The events of a step before its last write of `OE_N` (R225). -/
def State.eventsBeforeUnblank (s : State) : List PinEvent :=
  s.serialFrame.flatMap clockBit ++ [.oeN true, .rowsel (rowselOf s.row), .latch true, .latch false]

theorem State.refreshEvents_eq (s : State) :
    s.refreshEvents = s.eventsBeforeUnblank ++ [.oeN s.blankHold] := by
  simp [State.refreshEvents, State.latchEvents, State.eventsBeforeUnblank]

/-- R225, R235: the trace after a step with `blankHold` at either value. -/
theorem State.afterRefresh_withHold_trace (s : State) (hold : Bool) :
    { s with blankHold := hold }.afterRefresh.trace =
      (s.trace ++ s.eventsBeforeUnblank) ++ [.oeN hold] := by
  rw [State.afterRefresh_trace, State.refreshEvents_eq, List.append_assoc]
  rfl

/-- Settles O38: the step from the state with `blankHold` cleared, and back, differs in the output. -/
theorem stepWhileBlanked : Obligations.StepWhileBlanked := by
  intro s held
  have same : { { s with blankHold := false } with blankHold := true } = s := by rw [← held]
  have steps := State.afterRefresh_withHold { s with blankHold := false } true
  have trace := State.afterRefresh_withHold_trace s
  have pins := State.afterRefresh_pins
  refine ⟨_, _, s.trace ++ s.eventsBeforeUnblank, exec_refreshStep s, exec_refreshStep _,
    trace false, by rw [pins], ?_⟩
  have htrace := trace true
  rw [← held] at htrace
  rw [same] at steps
  rw [steps, pins, pins, htrace, held]
  rfl

/-! ## A full cycle (R232)

The step at (sub, r) of a cycle from (0, 0) comes after `8 sub + r` steps, none of which swaps; so it
sends the bit `sub` of the entries that the fields of the beginning name. -/

/-- A run of refresh steps goes on. -/
theorem execAll_refresh (n : Nat) (s : State) :
    execAll (refreshCommands n) s = .next (refreshed n s) := by
  induction n generalizing s with
  | zero => rfl
  | succ n ih =>
    rw [refreshed, execAll_refresh_succ, ih s.afterRefresh]
    rfl

theorem refreshed_of_execAll {n : Nat} {s t : State} (h : execAll (refreshCommands n) s = .next t) :
    refreshed n s = t := by
  rw [execAll_refresh] at h
  injection h

theorem refreshed_succ (n : Nat) (s : State) : refreshed (n + 1) s = refreshed n s.afterRefresh :=
  refreshed_of_execAll (execAll_refresh n s.afterRefresh)

/-- R210: refresh steps leave the build, the plane words and the Panel flags. -/
theorem refreshed_keeps_store (n : Nat) (s : State) :
    (refreshed n s).build = s.build ∧ (refreshed n s).fs = s.fs ∧
      (refreshed n s).panor = s.panor := by
  induction n generalizing s with
  | zero => exact ⟨rfl, rfl, rfl⟩
  | succ n ih =>
    obtain ⟨hbuild, hfs, hpanor⟩ := ih s.afterRefresh
    rw [s.afterRefresh_frame] at hbuild hfs hpanor
    rw [refreshed_succ, s.afterRefresh_frame]
    exact ⟨hbuild, hfs, hpanor⟩

/-- R230: in the cycle that begins at (0, 0), the step numbered `8 sub + r` starts at (sub, r) with the
roles of the beginning. -/
theorem refreshed_place {s : State} (hsub : s.subCycle = 0) (hrow : s.row = 0) {sub : Nat}
    (r : Fin 8) (h : sub < s.depth.levels) :
    (refreshed (sub * 8 + r.val) s).subCycle = sub ∧ (refreshed (sub * 8 + r.val) s).row = r ∧
      (refreshed (sub * 8 + r.val) s).displayIndex = s.displayIndex := by
  have hpos := Depth.levels_pos s.depth
  have whole : s.stepsToBoundary = 8 * s.depth.levels := by
    rw [State.stepsToBoundary, hsub, hrow, Fin.val_zero]
    omega
  have deferred : ∀ i ∈ refreshCommands (sub * 8 + r.val), i ≠ .requestSwap true := fun i hi => by
    rw [List.eq_of_mem_replicate hi]
    nofun
  have hcount : (refreshCommands (sub * 8 + r.val)).count .refreshStep = sub * 8 + r.val :=
    List.count_replicate_self
  obtain ⟨t, ht, waits⟩ := execAll_waits (hsub ▸ hpos) deferred (by omega)
  obtain rfl : refreshed (sub * 8 + r.val) s = t := refreshed_of_execAll ht
  have hdepth : (refreshed (sub * 8 + r.val) s).depth = s.depth :=
    congrArg Build.depth (refreshed_keeps_store _ s).1
  have inRange := waits.inRange
  have nearer := waits.nearer
  rw [hcount, whole, State.stepsToBoundary] at nearer
  rw [hdepth] at inRange nearer
  have := r.isLt
  exact ⟨by omega, Fin.ext (by omega), waits.display⟩

theorem State.serialLevel_congr {s t : State} (hbuild : t.build = s.build) (hfs : t.fs = s.fs)
    (hpanor : t.panor = s.panor) (hdisplay : t.displayIndex = s.displayIndex) :
    t.serialLevel = s.serialLevel := by
  funext panel r c pos
  simp only [State.serialLevel, State.fsRead, State.panorAt, State.depth, hbuild, hfs, hpanor,
    hdisplay]

/-- R77, R212: in the cycle that begins at (0, 0), the step at (sub, r) sends at each place the bit `sub`
of the schedule's entry for the field there at the beginning. -/
theorem serialFrame_refreshed {s : State} (hsub : s.subCycle = 0) (hrow : s.row = 0) {sub k : Nat}
    (r : Fin 8) (h : sub < s.depth.levels) {panel : Panel} {c : Chan} {pos : Fin 8}
    (hpanel : panelChain[k / 24]? = some panel)
    (hchan : s.build.chanOrder.toList[k % 24 / 8]? = some c)
    (hled : s.build.ledOrder.toList[k % 8]? = some pos) :
    (refreshed (sub * 8 + r.val) s).serialFrame[k]? =
      some (s.build.sched.bit (s.serialLevel panel r c pos) sub) := by
  obtain ⟨hbuild, hfs, hpanor⟩ := refreshed_keeps_store (sub * 8 + r.val) s
  obtain ⟨place, row, display⟩ := refreshed_place hsub hrow r h
  rw [State.serialFrame_of_place hpanel (hbuild ▸ hchan) (hbuild ▸ hled),
    State.serialLevel_congr hbuild hfs hpanor display, hbuild, place, row]

/-- R92: a field is a level of the build's depth. -/
theorem fieldAt_lt_levels (d : Depth) (w : PlaneWord) (p : Fin 8) :
    (fieldAt d w p).toNat < d.levels := by
  rw [toNat_fieldAt, Depth.levels_eq]
  exact Nat.mod_lt _ (Nat.two_pow_pos _)

/-- Settles O39: the bits sent at a place over the cycle are those of one entry of the table. -/
theorem pulseCountIsLevel : Obligations.PulseCountIsLevel := by
  intro s r k hwf hsub hrow hk
  obtain ⟨panel, c, pos, hpanel, hchan, hled⟩ := exists_serialPlace s.build hk
  refine ⟨fun n _ => execAll_refresh n s, panel, c, pos, hpanel, hchan, hled, ?_⟩
  have sent : ∀ sub ∈ List.range s.depth.levels,
      ((refreshed (sub * 8 + r.val) s).serialFrame[k]? == some true) =
        s.build.sched.bit (s.serialLevel panel r c pos) sub := fun sub h => by
    rw [serialFrame_refreshed hsub hrow r (List.mem_range.1 h) hpanel hchan hled]
    simp
  rw [List.filter_congr sent]
  exact Schedule.length_filter_bit hwf (fieldAt_lt_levels _ _ _)

end Sys2Proof.Machine
end

section
/-! # Proofs of the Coordinate Adapter family (44_coordinate_adapter)

## Draws: in or out of the canvas, and the place the mode gives (R260 to R267)

The target of a draw inside the canvas is `canvasPlace`, said here mode by mode; on a wide canvas the
column's band decides the panel and, on TOP, the rotation. -/

namespace Sys2Proof.Machine

open Sys2Proof

/-! ### The canvas and the wrap (R251, R261) -/

theorem State.canvasWidth_eq (s : State) : s.canvasWidth = if s.wide then 32 else 8 := rfl

theorem State.canvasHeight_eq (s : State) : s.canvasHeight = if s.wide ∧ s.tall then 16 else 8 := by
  rw [← Int.natCast_inj, State.canvasHeight_int]
  split <;> rfl

theorem State.wrapX_eq (s : State) (x : Int) :
    s.wrapX x = if s.wrap then x % (if s.wide then 32 else 8) else x := by
  rw [State.wrapX, State.canvasWidth_int]

/-- R261: a column inside the canvas is its own wrap. -/
theorem State.wrapX_of_lt {s : State} {x : Nat} (h : x < s.canvasWidth) : s.wrapX x = x := by
  unfold State.wrapX
  split
  · exact Int.emod_eq_of_lt (by omega) (by omega)
  · rfl

/-! ### Bands (R264) -/

/-- The first canvas column of a band (R264). -/
def Band.start : Band → Nat
  | .left => 0
  | .front => 8
  | .right => 16
  | .back => 24

theorem Band.start_add_lt (b : Band) (xs : Fin 8) : b.start + xs.val < 32 := by
  cases b <;> simp only [Band.start] <;> omega

/-- R264: the columns of a band are the eight from its first on. -/
theorem bandOf_start_add (b : Band) (xs : Fin 8) : bandOf (b.start + xs.val) = b := by
  obtain ⟨left, front, right, back⟩ := bandOf_cases (b.start + xs.val)
  cases b with
  | left => simp only [Band.start] at left ⊢; exact left (by omega)
  | front => simp only [Band.start] at front ⊢; exact front (by omega) (by omega)
  | right => simp only [Band.start] at right ⊢; exact right (by omega) (by omega)
  | back => simp only [Band.start] at back ⊢; exact back (by omega)

theorem mod8_start_add (b : Band) (xs : Fin 8) : mod8 (b.start + xs.val) = xs := by
  apply Fin.ext
  cases b <;> simp only [Band.start, mod8_val] <;> omega

/-- R264: the panel of a band, by the column. -/
theorem bandOf_panel (x : Nat) :
    (bandOf x).panel = if x < 8 then .left else if x < 16 then .front else if x < 24 then .right
      else .back := by
  obtain ⟨left, front, right, back⟩ := bandOf_cases x
  split_ifs with h8 h16 h24
  · rw [left h8]; rfl
  · rw [front (by omega) h16]; rfl
  · rw [right (by omega) h24]; rfl
  · rw [back (by omega)]; rfl

/-! ### The place of a canvas point, by mode (R263 to R266) -/

/-- R263: flat mode. -/
theorem State.canvasPlace_flat {s : State} (hwide : s.wide = false) (x y : Nat) :
    s.canvasPlace x y = ⟨s.gfxPanel, mod8 y, mod8 x⟩ := by
  simp [State.canvasPlace, State.isWide, hwide]

/-- R264, R265: a wide canvas off TOP. -/
theorem State.canvasPlace_side {s : State} (hwide : s.wide = true) {y : Nat}
    (hside : ¬ (s.tall = true ∧ y < 8)) (x : Nat) :
    s.canvasPlace x y = ⟨(bandOf x).panel, mod8 (if s.tall then y - 8 else y), mod8 x⟩ := by
  simp [State.canvasPlace, State.isWide, State.isTall, hwide, hside]

/-- R266: the upper half of a wide and tall canvas is TOP, turned band by band. -/
theorem State.canvasPlace_top {s : State} (hwide : s.wide = true) (htall : s.tall = true) {y : Nat}
    (hy : y < 8) (x : Nat) : s.canvasPlace x y = topPlace (bandOf x) (mod8 x) (mod8 y) := by
  simp [State.canvasPlace, State.isWide, State.isTall, hwide, htall, hy]

theorem topPlace_panel (b : Band) (xs ys : Fin 8) : (topPlace b xs ys).panel = .top := by
  cases b <;> rfl

/-- R260: the target at a point inside the canvas, whatever `wrap` is. -/
theorem State.drawTarget_of_lt {s : State} {x y : Nat} (hx : x < s.canvasWidth)
    (hy : y < s.canvasHeight) : s.drawTarget x y = some (s.canvasPlace x y) :=
  State.drawTarget_inside (State.wrapX_of_lt hx) rfl hx hy

/-- R267: the two targets of a band column at the seam, on TOP and in the side panel's stored row 0. -/
theorem State.drawTarget_seam {s : State} (hwide : s.wide = true) (htall : s.tall = true) (b : Band)
    (xs : Fin 8) {x : Int} (hx : x = b.start + xs.val) :
    s.drawTarget x 7 = some (topPlace b xs 7) ∧ s.drawTarget x 8 = some ⟨b.panel, 0, xs⟩ := by
  rw [← Int.natCast_add] at hx
  subst hx
  have width : b.start + xs.val < s.canvasWidth := by
    rw [s.canvasWidth_eq, if_pos hwide]
    exact b.start_add_lt xs
  have height : s.canvasHeight = 16 := by rw [s.canvasHeight_eq, if_pos ⟨hwide, htall⟩]
  have upper := State.drawTarget_of_lt (y := 7) width (by omega)
  have lower := State.drawTarget_of_lt (y := 8) width (by omega)
  rw [State.canvasPlace_top hwide htall (by decide), bandOf_start_add, mod8_start_add] at upper
  rw [State.canvasPlace_side hwide (by simp), bandOf_start_add, mod8_start_add, htall] at lower
  exact ⟨upper, lower⟩

/-! ### The commands -/

/-- Settles O42: both commands only write their registers. -/
theorem canvasConfiguration : Obligations.CanvasConfiguration :=
  fun _ _ _ _ _ => ⟨rfl, rfl⟩

/-- Settles O43: outside the canvas the draw has no target. -/
theorem drawOutsideIsDropped : Obligations.DrawOutsideIsDropped := by
  intro s x y color cw ch hcw hch outside
  rw [← State.canvasWidth_int] at hcw
  rw [← State.canvasHeight_int] at hch
  subst hcw hch
  apply exec_drawPixel_dropped
  rw [State.drawTarget_eq_none_iff]
  rcases outside with below | above | ⟨unwrapped, hx⟩
  · exact .inr (.inl below)
  · exact .inr (.inr above)
  · have : s.wrapX x.toInt = x.toInt := by rw [State.wrapX, unwrapped]; rfl
    rw [this]
    exact .inl hx

/-- Settles O44: the target is `canvasPlace` of the point, read off by mode and, on TOP, by band. -/
theorem drawInsideWritesTarget : Obligations.DrawInsideWritesTarget := by
  intro s x y color cx cy hx hy hcx hcy
  rw [← State.wrapX_eq] at hx
  rw [← State.canvasHeight_eq] at hcy
  have target := State.drawTarget_inside hx.symm hy.symm hcx hcy
  refine ⟨_, _, _, _, exec_drawPixel_drawn target color, exec_setLedColor .., fun flat => ?_,
    fun wide side => ?_, fun wide tall top => ?_⟩
  · rw [if_neg (by simp [flat])] at hcx
    rw [s.canvasHeight_eq, if_neg (by simp [flat])] at hcy
    rw [State.canvasPlace_flat flat]
    exact ⟨rfl, Nat.mod_eq_of_lt hcy, Nat.mod_eq_of_lt hcx⟩
  · have row : (if s.tall then cy - 8 else cy) < 8 := by
      rw [s.canvasHeight_eq] at hcy
      by_cases tall : s.tall = true
      · rw [if_pos ⟨wide, tall⟩] at hcy
        rw [if_pos tall]
        omega
      · rw [if_neg fun both => tall both.2] at hcy
        rw [if_neg tall]
        exact hcy
    rw [State.canvasPlace_side wide side]
    exact ⟨bandOf_panel cx, Nat.mod_eq_of_lt row, rfl⟩
  · rw [if_pos wide] at hcx
    obtain ⟨left, front, right, back⟩ := bandOf_cases cx
    rw [State.canvasPlace_top wide tall top]
    refine ⟨topPlace_panel _ _ _, fun h => ?_, fun h h' => ?_, fun h h' => ?_, fun h => ?_⟩
    · rw [left h]; simp only [topPlace, rev_val, mod8_val]; omega
    · rw [front h h']; simp only [topPlace, mod8_val]; omega
    · rw [right h h']; simp only [topPlace, rev_val, mod8_val]; omega
    · rw [back h]; simp only [topPlace, rev_val, mod8_val]; omega

/-- Settles O45: `drawTarget_seam` in each band. -/
theorem seamsClose : Obligations.SeamsClose := by
  intro s xs wide tall
  obtain ⟨frontTop, frontSide⟩ := State.drawTarget_seam wide tall .front xs rfl
  obtain ⟨leftTop, leftSide⟩ := State.drawTarget_seam wide tall .left xs (Int.zero_add _).symm
  obtain ⟨rightTop, rightSide⟩ := State.drawTarget_seam wide tall .right xs rfl
  obtain ⟨backTop, backSide⟩ := State.drawTarget_seam wide tall .back xs rfl
  exact ⟨frontTop, frontSide, leftTop, leftSide, rightTop, rightSide, backTop, backSide⟩

end Sys2Proof.Machine
end

section
/-! ## The neighbour query (R280 to R285)

On TOP the answer is chosen from the candidates `topNeighbors`: one at an edge, two at a corner. -/

namespace Sys2Proof.Machine

open Sys2Proof

theorem mod8_fin (i : Fin 8) : mod8 i.val = i := Fin.ext (Nat.mod_eq_of_lt i.isLt)

/-- R280: the query at a coordinate of TOP. -/
theorem exec_getTopNeighbor_onTop {s : State} {x y : BitVec 16} {cx cy : Fin 8}
    (hx : x.toInt = cx.val) (hy : y.toInt = cy.val) (bg : ColorWord) :
    exec (.getTopNeighbor x y bg) s =
      .next (s.reply (.pixel (chooseNeighbor (unpackColor s.depth bg) (s.topNeighbors cx cy)))) := by
  have answer : s.topNeighbor x.toInt y.toInt bg =
      chooseNeighbor (unpackColor s.depth bg) (s.topNeighbors cx cy) := by
    rw [State.topNeighbor, hx, hy, if_neg (by omega), Int.toNat_natCast, Int.toNat_natCast, mod8_fin,
      mod8_fin]
  rw [← answer]
  rfl

/-! ### Edges (R281) -/

/-- R281: with one candidate the query is `GET_LED` of it. -/
theorem exec_getTopNeighbor_edge {s : State} {x y : BitVec 16} {cx cy : Fin 8}
    (hx : x.toInt = cx.val) (hy : y.toInt = cy.val) {p : Panel} {j : Fin 8}
    (only : s.topNeighbors cx cy = [s.sideLed p j]) (bg : ColorWord) :
    ∃ t, exec (.getTopNeighbor x y bg) s = .next t ∧ exec (.getLed .animate p 0 j) s = .next t := by
  refine ⟨_, exec_getTopNeighbor_onTop hx hy bg, ?_⟩
  rw [only]
  rfl

/-- R281: an edge point that is no corner has one candidate. -/
theorem State.topNeighbors_edges (s : State) {i : Fin 8} (h0 : i ≠ 0) (h7 : i ≠ 7) :
    s.topNeighbors 0 i = [s.sideLed .left i] ∧ s.topNeighbors 7 i = [s.sideLed .right i.rev] ∧
      s.topNeighbors i 0 = [s.sideLed .back i.rev] ∧ s.topNeighbors i 7 = [s.sideLed .front i] := by
  simp [State.topNeighbors, h0, h7]

theorem toInt_ofNat_fin8 (i : Fin 8) : (BitVec.ofNat 16 i.val).toInt = i.val := by
  revert i
  decide

/-- Settles O46: each edge point has one candidate. -/
theorem neighborAtEdge : Obligations.NeighborAtEdge := by
  rintro s i bg v low high rfl
  obtain ⟨left, right, back, front⟩ := s.topNeighbors_edges (i := i) (by omega) (by omega)
  have hi := toInt_ofNat_fin8 i
  have h0 : (0 : BitVec 16).toInt = (0 : Fin 8).val := rfl
  have h7 : (7 : BitVec 16).toInt = (7 : Fin 8).val := rfl
  exact ⟨exec_getTopNeighbor_edge h0 hi left bg, exec_getTopNeighbor_edge h7 hi right bg,
    exec_getTopNeighbor_edge hi h0 back bg, exec_getTopNeighbor_edge hi h7 front bg⟩

/-! ### Corners (R282, R283, R285) -/

theorem blendCorner_of_left_eq {g a : Pixel} (h : a = g) (b : Pixel) : blendCorner g a b = b := by
  subst h
  by_cases hb : b = a <;> simp [blendCorner, hb]

theorem blendCorner_of_right_eq {g b : Pixel} (h : b = g) (a : Pixel) : blendCorner g a b = a := by
  subst h
  by_cases ha : a = b <;> simp [blendCorner, ha]

theorem blendCorner_of_ne {g a b : Pixel} (ha : a ≠ g) (hb : b ≠ g) :
    blendCorner g a b = averagePixel a b := by
  simp [blendCorner, ha, hb]

/-- Settles O47: each corner has two candidates, which `blendCorner` combines. -/
theorem neighborAtCorner : Obligations.NeighborAtCorner := by
  intro s bg x y p q i j corner
  obtain ⟨cx, cy, hx, hy, both⟩ : ∃ cx cy : Fin 8, x.toInt = cx.val ∧ y.toInt = cy.val ∧
      s.topNeighbors cx cy = [s.sideLed p i, s.sideLed q j] := by
    simp only [List.mem_cons, List.not_mem_nil, or_false, Prod.mk.injEq] at corner
    rcases corner with ⟨rfl, rfl, rfl, rfl, rfl, rfl⟩ | ⟨rfl, rfl, rfl, rfl, rfl, rfl⟩ |
      ⟨rfl, rfl, rfl, rfl, rfl, rfl⟩ | ⟨rfl, rfl, rfl, rfl, rfl, rfl⟩
    · exact ⟨0, 0, rfl, rfl, rfl⟩
    · exact ⟨7, 0, rfl, rfl, rfl⟩
    · exact ⟨0, 7, rfl, rfl, rfl⟩
    · exact ⟨7, 7, rfl, rfl, rfl⟩
  have query := exec_getTopNeighbor_onTop (s := s) hx hy bg
  rw [both] at query
  refine ⟨s.sideLed p i, s.sideLed q j, unpackColor s.depth bg, _, exec_getLed .., exec_getLed ..,
    exec_unpack .., query, fun ha hb => (blendCorner_of_left_eq ha _).trans hb,
    fun ha => blendCorner_of_left_eq ha _, fun hb => blendCorner_of_right_eq hb _, fun ha hb => ?_⟩
  rw [chooseNeighbor, blendCorner_of_ne ha hb]
  exact ⟨toNat_averageLevel .., toNat_averageLevel .., toNat_averageLevel ..⟩

/-- Settles O48: what the query answers has only its `D` bits. -/
theorem neighborAnswersPixel : Obligations.NeighborAnswersPixel := by
  intro s x y bg
  have width := (s.topNeighbor_masked x.toInt y.toInt bg).toNat_lt
  exact ⟨_, rfl, width .red, width .green, width .blue⟩

end Sys2Proof.Machine
end

section
/-! # Proofs of the animation family (45_animation)

## The commands of the scheduler and of host blanking

`exec_animEnter_*` and `exec_animExit_*` say when the two commands take effect (R304, R305, R308); what
they then do is in `State.enterAnimation_spec` and `State.exitAnimation_spec`. -/

namespace Sys2Proof.Machine

open Sys2Proof

/-- R308: without a callback, or inside an invocation, there is nothing to enter. -/
theorem exec_animEnter_ignored {s : State} (h : s.animRegistered = false ∨ s.animActive = true) :
    exec .animEnter s = .next s := by
  rcases h with h | h <;> simp [exec, execAnimEnter, h]

theorem exec_animEnter_taken {s : State} (registered : s.animRegistered = true)
    (inactive : s.animActive = false) : exec .animEnter s = .next s.enterAnimation := by
  simp [exec, execAnimEnter, registered, inactive]

/-- R308: outside an invocation there is nothing to leave. -/
theorem exec_animExit_ignored {s : State} (inactive : s.animActive = false) (done : Bool) :
    exec (.animExit done) s = .next s := by
  simp [exec, execAnimExit, inactive]

theorem exec_animExit_taken {s : State} (active : s.animActive = true) (done : Bool) :
    exec (.animExit done) s = .next (s.exitAnimation done) := by
  simp [exec, execAnimExit, active]

theorem exec_setBlank (on : Bool) (s : State) : exec (.setBlank on) s = .next (s.setBlankHold on) := rfl

/-- Settles O50: `State.setBlankHold` written out. -/
theorem setBlankDrivesOutputEnable : Obligations.SetBlankDrivesOutputEnable :=
  fun s on => exec_setBlank on s

/-- Settles O51: the arm of `ANIM_REGISTER` is this update of the two registers. -/
theorem animRegisterWritesRegisters : Obligations.AnimRegisterWritesRegisters :=
  fun _ _ _ => rfl

/-- Settles O52: the entry is ignored, or taken with the output blanked before, or taken without. -/
theorem animEnterProtocol : Obligations.AnimEnterProtocol := by
  intro s
  refine ⟨exec_animEnter_ignored, fun registered inactive hold => ?_, fun registered inactive hold => ?_⟩
  · rw [exec_animEnter_taken registered inactive, State.enterAnimation_spec]
    simp [hold]
  · rw [exec_animEnter_taken registered inactive, State.enterAnimation_spec]
    simp [hold]

/-- Settles O53: the exit is ignored, or taken. -/
theorem animExitProtocol : Obligations.AnimExitProtocol := by
  intro s done
  refine ⟨fun inactive => exec_animExit_ignored inactive done, fun active => ?_⟩
  rw [exec_animExit_taken active, State.exitAnimation_spec]

end Sys2Proof.Machine
end

section
/-! ## An invocation stays dark (R306)

Two facts about one command carry the run. Whatever the command, if `blankHold` is 1 after it then it wrote
only 1 to `OE_N` (`Effect.dark_events`). And no command but `SET_BLANK 0` and `ANIM_EXIT` ends the blanking
of an invocation or touches what its entry saved (`exec_keeps_invocation`). -/

namespace Sys2Proof.Machine

open Sys2Proof

/-! ### Events -/

/-- Every `OE_N` event of a stretch of trace is 1: the output is off throughout. -/
def darkEvents (events : List PinEvent) : Prop := ∀ v, .oeN v ∈ events → v = true

theorem darkEvents_nil : darkEvents [] := by simp [darkEvents]

theorem darkEvents_oeN {v : Bool} : darkEvents [.oeN v] ↔ v = true := by simp [darkEvents]

theorem darkEvents_append {es fs : List PinEvent} :
    darkEvents (es ++ fs) ↔ darkEvents es ∧ darkEvents fs := by
  simp [darkEvents, or_imp, forall_and]

/-- Clocking out bits does not write `OE_N` (R221). -/
theorem darkEvents_clockBits (bits : List Bool) : darkEvents (bits.flatMap clockBit) := by
  simp [darkEvents, clockBit]

/-- R225: the latch sequence ends with `OE_N <- blankHold`. -/
theorem State.darkEvents_refreshEvents {s : State} (held : s.blankHold = true) :
    darkEvents s.refreshEvents := by
  rw [State.refreshEvents, darkEvents_append]
  exact ⟨darkEvents_clockBits _, by simp [darkEvents, State.latchEvents, held]⟩

/-- R40: a command after which the output is held blanked wrote only 1 to `OE_N`. -/
theorem Effect.dark_events {s t : State} {i : Instr} (effect : Effect s i t)
    (held : t.blankHold = true) : ∃ events, t.trace = s.trace ++ events ∧ darkEvents events := by
  have silent : t.trace = s.trace → ∃ events, t.trace = s.trace ++ events ∧ darkEvents events :=
    fun h => ⟨[], by rw [h, List.append_nil], darkEvents_nil⟩
  cases effect with
  | unchanged => exact silent rfl
  | drawn _ role p r idx px => exact silent rfl
  | replied _ v hv => exact silent rfl
  | panelOriented b p o => exact silent rfl
  | rowOriented b p r o => exact silent rfl
  | modeSet w t x => exact silent rfl
  | panelChosen p => exact silent rfl
  | swapped => exact silent rfl
  | swapRequested => exact silent rfl
  | registered present period => exact silent rfl
  | blanked on =>
    obtain rfl : on = true := held
    exact ⟨_, s.setBlankHold_trace true, darkEvents_oeN.2 (Bool.or_true _)⟩
  | entered =>
    rw [State.enterAnimation_spec] at silent ⊢
    by_cases before : s.blankHold = true
    · exact silent (if_pos before)
    · exact ⟨_, if_neg before, darkEvents_oeN.2 rfl⟩
  | exited done =>
    rw [State.exitAnimation_spec] at held ⊢
    have saved : s.animSavedHold = true := held
    exact ⟨_, rfl, darkEvents_oeN.2 (by rw [saved, Bool.or_true])⟩
  | refreshed =>
    rw [State.afterRefresh_blankHold] at held
    exact ⟨_, s.afterRefresh_trace, State.darkEvents_refreshEvents held⟩

/-! ### Registers -/

/-- An invocation is active with the output held blanked, and its entry saved `saved` (R34, R304). -/
structure State.InInvocation (s : State) (saved : Bool) : Prop where
  active : s.animActive = true
  held : s.blankHold = true
  savedHold : s.animSavedHold = saved

theorem State.enterAnimation_inInvocation (s : State) : s.enterAnimation.InInvocation s.blankHold := by
  rw [State.enterAnimation_spec]
  exact ⟨rfl, rfl, rfl⟩

/-- What R306 keeps out of the body of an invocation: `SET_BLANK 0` and `ANIM_EXIT`. -/
def staysInside (i : Instr) : Prop := i ≠ .setBlank false ∧ ∀ done, i ≠ .animExit done

/-- Of the writers of the three registers (R35), the body may hold `SET_BLANK 1` and an `ANIM_ENTER`, which
is ignored (R308). -/
theorem exec_keeps_invocation {s t : State} {i : Instr} {saved : Bool} (inside : s.InInvocation saved)
    (h : exec i s = .next t) (hi : staysInside i) : t.InInvocation saved := by
  obtain ⟨noUnblank, noExit⟩ := hi
  by_cases entry : i = .animEnter
  · subst entry
    obtain rfl := eq_of_exec (exec_animEnter_ignored (.inr inside.active)) h
    exact inside
  by_cases blank : i = .setBlank true
  · subst blank
    obtain rfl := eq_of_exec (exec_setBlank true s) h
    exact ⟨inside.active, rfl, inside.savedHold⟩
  obtain ⟨-, -, -, -, holdWriters, -, -, -, activeWriters, savedWriters, -⟩ :=
    registersHaveTheirWriters s t i h
  have active : t.animActive = s.animActive :=
    not_imp_comm.1 activeWriters (by simp [entry, noExit])
  have held : t.blankHold = s.blankHold :=
    not_imp_comm.1 holdWriters (by simp [entry, noExit, blank, noUnblank])
  have savedHold : t.animSavedHold = s.animSavedHold := not_imp_comm.1 savedWriters entry
  exact ⟨active.trans inside.active, held.trans inside.held, savedHold.trans inside.savedHold⟩

/-! ### Runs -/

/-- The body of an invocation runs to its end, inside the invocation and dark. -/
theorem execAll_stays_dark {body : List Instr} {s : State} {saved : Bool} (hs : s.Inv)
    (inside : s.InInvocation saved) (hbody : ∀ i ∈ body, staysInside i) :
    ∃ t events, execAll body s = .next t ∧ t.Inv ∧ t.InInvocation saved ∧
      t.trace = s.trace ++ events ∧ darkEvents events := by
  induction body generalizing s with
  | nil => exact ⟨s, [], rfl, hs, inside, (List.append_nil _).symm, darkEvents_nil⟩
  | cons i rest ih =>
    obtain ⟨hi, hrest⟩ := List.forall_mem_cons.1 hbody
    obtain ⟨u, hu, effect⟩ := exec_effect s i
    have inside' := exec_keeps_invocation inside hu hi
    obtain ⟨es, trace, dark⟩ := effect.dark_events inside'.held
    obtain ⟨t, fs, ht, inv, inside'', trace', dark'⟩ := ih (exec_keeps_inv hs hu) inside' hrest
    exact ⟨t, es ++ fs, by simp only [execAll, hu, ht], inv, inside'',
      by rw [trace', trace, List.append_assoc], darkEvents_append.2 ⟨dark, dark'⟩⟩

/-- Settles O54: the entry and then the body keep `blankHold` 1; at the end `OE_N` shows it (R40), and the
exit restores what the entry saved. -/
theorem invocationStaysDark : Obligations.InvocationStaysDark := by
  intro s body done hs registered inactive hbody
  have entry := exec_animEnter_taken registered inactive
  have inside := s.enterAnimation_inInvocation
  obtain ⟨es, entryTrace, entryDark⟩ := (effect_of_exec entry).dark_events inside.held
  obtain ⟨t, fs, ht, inv, inside', bodyTrace, bodyDark⟩ :=
    execAll_stays_dark hs.enterAnimation inside hbody
  have run : execAll (.animEnter :: body) s = .next t := by simp only [execAll, entry, ht]
  have dark : t.pins.oeN = true := by rw [inv.outputEnable, inside'.held, Bool.or_true]
  have exit : execAll [.animExit done] t = .next (t.exitAnimation done) := by
    simp only [execAll, exec_animExit_taken inside'.active]
  refine ⟨t, t.exitAnimation done, es ++ fs, run, by rw [bodyTrace, entryTrace, List.append_assoc],
    darkEvents_append.2 ⟨entryDark, bodyDark⟩, inside'.held, dark, (execAll_append run).trans exit, ?_, ?_⟩
  · rw [State.exitAnimation_spec]
    exact inside'.savedHold
  · rw [State.exitAnimation_spec]

end Sys2Proof.Machine
end

section
/-! # Proofs of the exceptions family (60_exceptions)

No command stops the block (R320), and the host's commands leave the scan to the refresh context (R335):
of the pins they write `OE_N` alone. -/

namespace Sys2Proof.Machine

open Sys2Proof

/-- Settles O7: `exec_effect` says how each command goes on. -/
theorem everyCommandGoesOn : Obligations.EveryCommandGoesOn := by
  intro i s
  obtain ⟨t, ht, -⟩ := exec_effect s i
  exact ⟨t, ht⟩

/-- R335: only the refresh step is issued by the refresh context. -/
theorem ne_refreshStep_of_animation {i : Instr} (h : contextOf i = .animation) : i ≠ .refreshStep := by
  rintro rfl
  cases h

/-- R335: among the effects only a refresh step writes a pin other than `OE_N`; blanking, and the entry and
the exit of an invocation, write `OE_N`. -/
theorem Effect.keeps_scanPins {s t : State} {i : Instr} (effect : Effect s i t)
    (host : i ≠ .refreshStep) : t.pins.scanPins = s.pins.scanPins := by
  cases effect with
  | refreshed => exact absurd rfl host
  | blanked on => rfl
  | entered =>
    rw [State.enterAnimation_spec]
    by_cases held : s.blankHold = true <;> simp [held, Pins.scanPins]
  | exited done =>
    rw [State.exitAnimation_spec]
    rfl
  | _ => rfl

/-- Settles O55: the registers of the scan have the refresh step as their one writer (O58), and so have its
pins; no command writes the build. -/
theorem hostLeavesScanAlone : Obligations.HostLeavesScanAlone := by
  intro s t i h
  have effect := effect_of_exec h
  refine ⟨effect.keeps_build, fun animation => ?_⟩
  have host := ne_refreshStep_of_animation animation
  obtain ⟨scanWriter, -⟩ := registersHaveTheirWriters s t i h
  have scan := not_imp_comm.1 scanWriter host
  simp only [Prod.mk.injEq] at scan
  obtain ⟨subCycle, row, blankSeq⟩ := scan
  exact ⟨subCycle, row, blankSeq, effect.keeps_scanPins host⟩

end Sys2Proof.Machine
end

section
/-! # Proofs of the reset and hazards family (70_reset_and_hazards)

## A dark DISPLAY buffer sends zeros (R201, R351)

A legal table leaves a level off in every sub-cycle when the level is 0, so a buffer whose words are all 0
is sent as 120 zero bits. -/

namespace Sys2Proof

/-- R201: level 0 is on in none of the sub-cycles. -/
theorem Schedule.bit_zero {t : Schedule} (h : t.wf = true) {sub : Nat} (hsub : sub < t.depth.levels) :
    t.bit 0 sub = false := by
  have neverOn :=
    List.length_eq_zero_iff.1 (Schedule.length_filter_bit h (v := 0) (Nat.zero_lt_of_lt hsub))
  exact Bool.eq_false_iff.2 (List.filter_eq_nil_iff.1 neverOn sub (List.mem_range.2 hsub))

end Sys2Proof

namespace Sys2Proof.Machine

open Sys2Proof

/-- R25: every field of the word 0 is the level 0. -/
@[simp] theorem fieldAt_zero (d : Depth) (pos : Fin 8) : fieldAt d 0 pos = 0 :=
  BitVec.eq_of_toNat_eq (by simp [toNat_fieldAt])

/-- R212, R351: a DISPLAY buffer whose words are all 0 is sent as zeros, in any row and sub-cycle. -/
theorem State.serialFrame_of_dark {s : State} (hwf : s.build.sched.wf = true)
    (hrange : s.subCycle < s.depth.levels) (dark : ∀ p r c, s.fsRead s.displayIndex p r c = 0) :
    s.serialFrame = List.replicate 120 false := by
  refine List.eq_replicate_iff.2 ⟨s.length_serialFrame, fun bit hbit => ?_⟩
  obtain ⟨k, hk⟩ := List.mem_iff_getElem?.1 hbit
  obtain ⟨hlength, -⟩ := List.getElem?_eq_some_iff.1 hk
  obtain ⟨panel, c, pos, hpanel, hchan, hled⟩ :=
    exists_serialPlace s.build (s.length_serialFrame ▸ hlength)
  have hplace := State.serialFrame_of_place hpanel hchan hled
  rw [State.serialLevel, dark, fieldAt_zero, Schedule.bit_zero hwf hrange, hk] at hplace
  exact Option.some.inj hplace

/-- Settles O11: the reset state displays a dark buffer from (0, 0) with the output not held blanked. -/
theorem firstStepAfterReset : Obligations.FirstStepAfterReset := by
  intro build hwf
  have frame : (State.resetWith build).serialFrame = List.replicate 120 false :=
    State.serialFrame_of_dark hwf (Depth.levels_pos _) fun _ _ _ => rfl
  obtain ⟨t, ht, nextRow, -⟩ := sequencerAdvance (State.resetWith build)
  obtain rfl := eq_of_exec (exec_refreshStep _) ht
  obtain ⟨row, sub⟩ := nextRow (by decide : (0 : Fin 8).val < 7)
  refine ⟨_, ht, ?_, by rw [State.afterRefresh_pins]; rfl, State.afterRefresh_blankSeq _, sub, Fin.ext row⟩
  rw [State.afterRefresh_trace, State.refreshEvents, frame]
  rfl

end Sys2Proof.Machine
end

section
/-! # The steps that run no command (R62, R350, log 5, log 6) -/

namespace Sys2Proof.Machine

open Sys2Proof

/-- R350, log 5: with no next command the block waits. -/
theorem step_of_nextCommand_none {s : State} (h : s.nextCommand = none) : step s = .next s := by
  simp only [step, h]

/-- R62, R108, log 6: a next word that does not decode is refused with the decoder's reason. -/
theorem step_of_decode_error {s : State} {w : CommandWord} {why : Illegal}
    (h : s.nextCommand = some w) (illegal : decode w = .error why) :
    step s = .refused (.illegalCommand why) := by
  simp only [step, h, illegal, State.refuseWord]

/-- Settles O6: the head of the stream, and what it decodes to, select the branch of `step`. -/
theorem stepWaitsOrRefuses : Obligations.StepWaitsOrRefuses := by
  constructor
  · intro s empty
    exact step_of_nextCommand_none (by rw [State.nextCommand, empty, List.head?_nil])
  · intro s w rest why hcommands illegal
    have next : s.nextCommand = some w := by rw [State.nextCommand, hcommands, List.head?_cons]
    exact step_of_decode_error next illegal

end Sys2Proof.Machine
end
